-- ==== Sys2Proof/Word.lean ====
section
/-! DEFINITION. The index types of the SR-3208's resources, its byte and set types, its field limits, and the
plainest arithmetic over them. -/

namespace Sys2Proof

/-- One byte of a frame (R160). -/
abbrev Byte := BitVec 8

/-- L0 to L31. -/
abbrev LineNo := Fin 32
/-- G0 to G7. -/
abbrev GroupNo := Fin 8
/-- S0 to S3. -/
abbrev SpoolNo := Fin 4
/-- C0 to C3. -/
abbrev CursorNo := Fin 4
/-- The notification classes 0 to 5 (R192). -/
abbrev ClassNo := Fin 6
/-- The link counters in the order of R167. -/
abbrev CounterNo := Fin 6

/-- Levels of L0 to L31, or a set of lines: bit n stands for Ln (R206). -/
abbrev LineSet := BitVec 32
/-- A set of groups, spools or link counters: bit n stands for the n-th (R206). -/
abbrev SmallSet := BitVec 8

/-- The largest time, timestamp and sequence number, 2^48 - 1 (R1, R68). -/
def max48 : Nat := 281474976710655
/-- The largest segment number and 32-bit count, 2^32 - 1 (R1, R5). -/
def max32 : Nat := 4294967295
/-- The largest 16-bit count, 65535 (R5, R91, R167). -/
def max16 : Nat := 65535

/-- A count that rises by `by_` and saturates at `top`. -/
def satAdd (top n by_ : Nat) : Nat := min (n + by_) top

/-- Every entry of a vector through `f`, in a form the kernel evaluates. -/
def mapV {α β : Type} {n : Nat} (f : α → β) (v : Vector α n) : Vector β n :=
  ⟨⟨v.toList.map f⟩, by simp⟩

/-- The one-member set of small resources holding number `i`. -/
def single {n : Nat} (i : Fin n) : SmallSet := BitVec.twoPow 8 i.val

/-- The one-member set of lines. -/
def singleLine (l : LineNo) : LineSet := BitVec.twoPow 32 l.val

/-- The bitmap of the lines for which `f` holds. -/
def bitsOf (f : LineNo → Bool) : LineSet :=
  (List.finRange 32).foldr (fun l acc => if f l then acc ||| BitVec.twoPow 32 l.val else acc) 0

end Sys2Proof
end

