-- ==== Sys2Proof/Config.lean ====
section
/-! DEFINITION. What the part fixes (the capacities of 00_scope.md and R188) and the two values the manual leaves open. -/

namespace Sys2Proof.Config

/-- Record slots shared by the four spools (R7, R188). -/
def recordSlots : Nat := 8192
/-- Entries of a spool's pin table (R32). -/
def pinTableSize : Nat := 4
/-- Entries of the lookback ring (R97). -/
def ringSize : Nat := 16
/-- Places of the outstanding set (R177). -/
def outstandingPlaces : Nat := 4
/-- Refusal slots (R179). -/
def refusalSlots : Nat := 2
/-- The cap of the credit count (R202). -/
def creditCap : Nat := 8
/-- Records one DATA frame, or one frame of a READ reply, carries at most (R141, R151). -/
def recordsPerFrame : Nat := 6
/-- The gap timer's length in µs (R164): the idle time allowed between two bytes of one frame. -/
def gapLength : Nat := 2000
/-- The bound on the time from an erase's start to its completion in µs (R46). -/
def eraseBound : Nat := 25000

/-- DESIGN CHOICE (log entry 5), safe. The deadline D of a burst whose exact value exceeds 2^48 - 1: the manual gives
deadlines as 48-bit timestamps (R5, R95) and states no result there. A free value: nothing is known of it but that it
is a 48-bit number depending on the exact sum. -/
opaque freeDeadline : Nat → BitVec 48

/-- DESIGN CHOICE (log entry 14), safe. The more indication of a LIST_SEGMENTS on an ERASING spool that still holds
segments numbered from the start on: R144 and R45 give the empty list and the erasing indication, and say of the more
indication only that it tells whether segments above the last entry remain, where there is no last entry. A free value
of the number of those segments. -/
opaque freeErasingMore : Nat → Bool

end Sys2Proof.Config
end

