-- ==== Sys2Proof/Syntax.lean ====
section
/-! DEFINITION. The commands of the block: one constructor per row of spec/opcode_table.json, in the table's order.
The first 34 (ARM to BAD_REQUEST_TAKEN) are the taking of the oldest request of the intake queue (R181): the
request's fields stand in its payload, so these rows have no operand (log entry 1). -/

namespace Sys2Proof

inductive Instr where
  /-- ARM (R121). -/
  | arm
  /-- HOLD (R122). -/
  | hold
  /-- RESUME (R123). -/
  | resume
  /-- DISARM (R124). -/
  | disarm
  /-- RESET (R128). -/
  | reset
  /-- SET_LINE (R49). -/
  | setLine
  /-- SET_CHATTER (R50). -/
  | setChatter
  /-- SET_GROUP (R73). -/
  | setGroup
  /-- SET_REFERENCE (R88). -/
  | setReference
  /-- SET_SPOOL (R8). -/
  | setSpool
  /-- SET_BURST (R94). -/
  | setBurst
  /-- SET_NOTE (R195). -/
  | setNote
  /-- SET_TIME (R69). -/
  | setTime
  /-- GET_TIME (R70). -/
  | getTime
  /-- CUT (R21). -/
  | cut
  /-- RELEASE (R30). -/
  | release
  /-- PIN (R33). -/
  | pin
  /-- UNPIN (R34). -/
  | unpin
  /-- ERASE (R39). -/
  | erase
  /-- GET_SPOOL (R26). -/
  | getSpool
  /-- OPEN_CURSOR (R137). -/
  | openCursor
  /-- CLOSE_CURSOR (R138). -/
  | closeCursor
  /-- READ (R140). -/
  | read
  /-- SPACE (R142). -/
  | space
  /-- SKIP (R143). -/
  | skip
  /-- STREAM (R149). -/
  | stream
  /-- STOP_STREAM (R154). -/
  | stopStream
  /-- LIST_SEGMENTS (R144). -/
  | listSegments
  /-- CREDIT (R202). -/
  | credit
  /-- ACK_NOTE (R200). -/
  | ackNote
  /-- GET_STATUS (R186). -/
  | getStatus
  /-- GET_COUNTERS (R187). -/
  | getCounters
  /-- IDENTIFY (R188). -/
  | identify
  /-- BAD_REQUEST_TAKEN (R182). -/
  | badRequestTaken
  /-- RAW_CHANGE (R51). `pin` is the pin level the sample showed. -/
  | rawChange (line : LineNo) (pin : Bool)
  /-- SETTLING_TIMER_EXPIRY (R56). -/
  | settlingTimerExpiry (line : LineNo)
  /-- LOCKOUT_EXPIRY (R59). -/
  | lockoutExpiry (line : LineNo)
  /-- CHATTER_WINDOW_EXPIRY (R61). -/
  | chatterWindowExpiry (line : LineNo)
  /-- RELEASE_TIMER_EXPIRY (R64). -/
  | releaseTimerExpiry (line : LineNo)
  /-- DEADLINE_EXPIRY (R109). -/
  | deadlineExpiry
  /-- COOLDOWN_EXPIRY (R107). -/
  | cooldownExpiry
  /-- ACKNOWLEDGE_TIMER_EXPIRY (R198). -/
  | acknowledgeTimerExpiry (cls : ClassNo)
  /-- GAP_TIMEOUT (R164). -/
  | gapTimeout
  /-- ERASE_COMPLETION (R46). -/
  | eraseCompletion (spool : SpoolNo)
  /-- FRAME_ARRIVAL (R163). `check` is the second check byte. -/
  | frameArrival (check : Byte)
  /-- LENGTH_FAULT (R162). `byte` is the length byte received. -/
  | lengthFault (byte : Byte)
  /-- CHARACTER_ERROR (R165). `stillLow` says whether the receive line is still low at the end of the character. -/
  | characterError (stillLow : Bool)
  /-- LINK_BREAK (R171). -/
  | linkBreak
  /-- ARBITER_CHOICE (R169). -/
  | arbiterChoice
  /-- TRANSMISSION_COMPLETION (R170). -/
  | transmissionCompletion
  /-- RSTN_LOW (R131). -/
  | rstnLow
  /-- PIN_RESET (R132). `pins` are the levels of L0 to L31 sampled there, `spd1` and `spd0` the strap levels (high is true). -/
  | pinReset (pins : LineSet) (spd1 spd0 : Bool)
  /-- POWER_ON (R131). Operands as PIN_RESET. -/
  | powerOn (pins : LineSet) (spd1 spd0 : Bool)
  /-- CHARACTER_RECEIVED (R161). -/
  | characterReceived (byte : Byte)
  /-- RECEIVE_LINE_RETURNS_HIGH (R165). -/
  | receiveLineReturnsHigh
  deriving DecidableEq, Repr

end Sys2Proof
end

