-- ==== Sys2Proof/Machine/State.lean ====
section
/-! DEFINITION. The state of the recorder, block by block, as plain data; what can stop it; and its value right after
pin reset. Times are µs unless a name says ms; a timer is held as the µs it has left, `none` when it is not running. -/

namespace Sys2Proof.Machine

/-! ### Names shared by several blocks -/

/-- The recorder mode (R117). -/
inductive Mode where
  | setup | armed | hold
  deriving DecidableEq, Repr

/-- The cause of a MODE record (R4, R125). -/
inductive ModeCause where
  | arm | hold | resume | disarm
  deriving DecidableEq, Repr

/-- What an append does when the spool has no free slot (R6). -/
inductive Policy where
  | wrap | halt
  deriving DecidableEq, Repr

/-- Near-full state (R6). -/
inductive NearFull where
  | below | above
  deriving DecidableEq, Repr

/-- How a raw change becomes a qualified change (R49). -/
inductive QualifyMode where
  | stable | latch
  deriving DecidableEq, Repr

/-- A group's action (R72). -/
inductive Action where
  | log | burst
  deriving DecidableEq, Repr

/-- A burst disposition (R3, R99). -/
inductive Disposition where
  | none | opened | extended | suppressed | refused
  deriving DecidableEq, Repr

/-- Why a MARK was placed (R5). -/
inductive MarkReason where
  | cut | burstStart | burstEnd | held | disarmed
  deriving DecidableEq, Repr

/-- Group state; the trip time is present only while TRIPPED (R74). -/
inductive GroupState where
  | off | conforming
  | tripped (tripTime : Nat)
  | blocked
  deriving DecidableEq, Repr

/-! ### Records (R1 to R5) -/

/-- The kind and the kind's own fields of a record (R3 to R5). -/
inductive RecordBody where
  | edge (line : LineNo) (level : Bool)
  | trip (group : GroupNo) (cause : LineNo) (levels : LineSet) (count : Nat) (disposition : Disposition) (burstId : Option Nat)
  | change (group : GroupNo) (line : LineNo) (levels : LineSet)
  | restore (group : GroupNo) (line : LineNo) (levels : LineSet) (divergence : Option Nat)
  | reference (group : GroupNo) (levels : LineSet) (state : GroupState)
  | chatter (line : LineNo) (count : Nat) (frozen : Bool)
  | chatterEnd (line : LineNo) (level changed : Bool)
  | burstOpen (id : Nat) (group : GroupNo) (deadline : Nat) (lookbackCount : Nat)
  | mark (reason : MarkReason) (recordCount : Nat) (burstId : Option Nat)
  | loss (count first last : Nat)
  | timeStep (old new : Nat)
  | mode (mode : Mode) (cause : ModeCause)
  deriving DecidableEq, Repr

/-- What the block that asks for an append supplies (R1); the record count of a MARK is filled in by the store (R13). -/
structure Draft where
  body : RecordBody
  timestamp : Nat
  lookback : Bool := false
  late : Bool := false
  afterChatter : Bool := false
  deriving DecidableEq, Repr

/-- A record as a spool holds it (R1). -/
structure Record where
  seq : Nat
  seg : Nat
  first : Bool
  inBurst : Bool
  draft : Draft
  deriving DecidableEq, Repr

/-! ### The store -/

/-- A non-zero loss tally (R6, R15). -/
structure Tally where
  count : Nat
  first : Nat
  last : Nat
  deriving DecidableEq, Repr

/-- A spool's configuration and state (R6). -/
structure Spool where
  capacity : Nat
  policy : Policy
  threshold : Nat
  /-- Held records, oldest first. -/
  held : List Record
  nextSeq : Nat
  nextSeg : Nat
  /-- The current segment; segment-open is set exactly when it is present. -/
  current : Option Nat
  segCount : Nat
  burstSeg : Bool
  reservation : Bool
  /-- The loss tally, absent at count 0. -/
  tally : Option Tally
  totalLost : Nat
  nearFull : NearFull
  /-- Erase state: present while ERASING, with the µs left of the bound of R46. -/
  erasing : Option Nat
  /-- The pin table: segment numbers, ascending, no duplicates (R32). -/
  pins : List Nat
  deriving DecidableEq, Repr

/-! ### The qualifier -/

/-- A line's configuration (R49). -/
structure LineConfig where
  enabled : Bool
  invert : Bool
  qualify : QualifyMode
  q : Nat
  k : Nat
  logEdges : Bool
  route : SpoolNo
  lookback : Bool
  capture : Bool
  deriving DecidableEq, Repr

/-- Line state with the timers of each state (R52). -/
inductive LineState where
  | idle
  | quiet
  | settling (t0 timer : Nat)
  | lockout (timer : Nat)
  | suppressed (timer : Nat)
  deriving DecidableEq, Repr

/-- A line (R52). The raw level is the sampled pin level, inverted as `cfg.invert` says (R51): `Line.raw`. -/
structure Line where
  cfg : LineConfig
  pin : Bool
  qualified : Bool
  state : LineState
  chatterCount : Nat
  /-- Chatter window timer. -/
  window : Option Nat
  deriving DecidableEq, Repr

/-! ### The group unit -/

/-- A group's configuration (R72); W in ms. -/
structure GroupConfig where
  enabled : Bool
  members : LineSet
  reference : LineSet
  priority : Nat
  route : SpoolNo
  action : Action
  w : Nat
  pinOnBurst : Bool
  deriving DecidableEq, Repr

/-- A group (R74). -/
structure Group where
  cfg : GroupConfig
  state : GroupState
  tripCount : Nat
  deriving DecidableEq, Repr

/-! ### The burst controller -/

/-- The burst settings, times in ms (R94). -/
structure BurstSettings where
  e : Nat
  m : Nat
  h : Nat
  tl : Nat
  p : Nat
  deriving DecidableEq, Repr

/-- What is kept of a burst while it is OPEN (R95). -/
structure OpenBurst where
  id : Nat
  spool : SpoolNo
  group : GroupNo
  t0 : Nat
  deadline : Nat
  /-- Window timer. -/
  timer : Nat
  deriving DecidableEq, Repr

/-- Burst state (R95). -/
inductive BurstPhase where
  | idle
  | isOpen (b : OpenBurst)
  | cooldown (id : Nat) (spool : SpoolNo) (group : GroupNo) (timer : Nat)
  deriving DecidableEq, Repr

/-- An entry of the lookback ring (R97). -/
structure RingEntry where
  line : LineNo
  level : Bool
  timestamp : Nat
  late : Bool
  afterChatter : Bool
  deriving DecidableEq, Repr

/-- The burst controller (R95). -/
structure BurstUnit where
  settings : BurstSettings
  phase : BurstPhase
  nextId : Nat
  /-- Lookback ring, oldest first. -/
  ring : List RingEntry
  deriving DecidableEq, Repr

/-! ### The cursor unit -/

/-- Cursor state with what each state keeps (R133, R135); `remaining` absent is unlimited. -/
inductive CursorState where
  | closed
  | positioned (spool : SpoolNo) (pos : Nat)
  | streaming (spool : SpoolNo) (pos : Nat) (remaining : Option Nat) (follow : Bool)
  | lapped (spool : SpoolNo)
  deriving DecidableEq, Repr

/-- A cursor (R133). -/
structure Cursor where
  state : CursorState
  inFlight : Option Nat
  deriving DecidableEq, Repr

/-- Why a stream ended (R152, R153). -/
inductive StreamEnd where
  | count | atEnd | stopped | lapped | erased | closed
  deriving DecidableEq, Repr

/-! ### The notification unit -/

/-- The details of the six classes (R192). -/
inductive Detail where
  | trip (groups : SmallSet) (count : Nat) (first : Option (SpoolNo × Nat))
  | burstEnd (count id : Nat) (spool : SpoolNo) (seg recordCount : Nat) (pinned : Bool)
  | nearFull (spools : SmallSet)
  | loss (spools : SmallSet) (count : Nat)
  | chatter (lines : LineSet)
  | linkFault (counters : SmallSet)
  deriving DecidableEq, Repr

/-- A notification class (R191); its state is derived from the two details (`NoteClass.state`). -/
structure NoteClass where
  enable : Bool
  priority : Nat
  /-- Acknowledge timeout in ms. -/
  timeout : Nat
  pendingDetail : Option Detail
  outstanding : Option Detail
  noteNumber : Nat
  /-- Acknowledge timer. -/
  timer : Option Nat
  resendDue : Bool
  deriving DecidableEq, Repr

/-- Class state (R191). -/
inductive ClassState where
  | idle | pending | outstanding | outstandingPending
  deriving DecidableEq, Repr

/-- The notification unit (R191). -/
structure Notes where
  classes : Vector NoteClass 6
  credit : Nat
  deriving DecidableEq, Repr

/-! ### The link: replies, frames, receiver -/

/-- Status codes (R184). -/
inductive Status where
  | ok | busy | tagInUse | badRequest | badArgument | wrongMode | configInvalid | spoolDisabled | spoolBusy | spoolFull
  | spoolNotEmpty | burstActive | noSuchRecord | noSuchSegment | pinTableFull | notPinned | atOldest | atEnd | lapped
  | noCursor | cursorBusy | staleNote
  deriving DecidableEq, Repr

/-- A cursor position as replies give it (R206). -/
structure Position where
  seq : Nat
  atEnd : Bool
  deriving DecidableEq, Repr

/-- The fault of CONFIG_INVALID check 2 (R119). -/
inductive ConfigFault where
  | noMembers | disabledMember | disabledRoute
  deriving DecidableEq, Repr

/-- The failing check of an ARM and its subject (R120). -/
inductive ArmFailure where
  | noSpool
  | group (g : GroupNo) (fault : ConfigFault) (member : Option LineNo)
  | window (g : GroupNo) (w m : Nat)
  | line (l : LineNo) (route : SpoolNo)
  deriving DecidableEq, Repr

/-- Segment state (R19). -/
inductive SegState where
  | current | closed | unterminated
  deriving DecidableEq, Repr

/-- A segment entry (R145). -/
structure SegEntry where
  number : Nat
  firstHeld : Nat
  lastHeld : Nat
  heldCount : Nat
  state : SegState
  truncated : Bool
  pinned : Bool
  burstId : Option Nat
  markCount : Option Nat
  deriving DecidableEq, Repr

/-- What GET_SPOOL reports (R26). -/
structure SpoolReport where
  capacity : Nat
  policy : Policy
  threshold : Nat
  heldCount : Nat
  reservation : Bool
  free : Nat
  /-- Oldest and newest held sequence. -/
  ends : Option (Nat × Nat)
  nextSeq : Nat
  nextSeg : Nat
  segOpen : Bool
  /-- Current segment number and segment count. -/
  current : Option (Nat × Nat)
  burstSeg : Bool
  tallyCount : Nat
  /-- First and last lost time. -/
  lostTimes : Option (Nat × Nat)
  totalLost : Nat
  nearFull : NearFull
  erasing : Bool
  pins : List Nat
  deriving DecidableEq, Repr

/-- Line state without its timers, as GET_STATUS reports it (R186). -/
inductive LineCode where
  | idle | quiet | settling | lockout | suppressed
  deriving DecidableEq, Repr

/-- What GET_STATUS reports (R186). -/
structure StatusReport where
  mode : Mode
  raw : LineSet
  qualified : LineSet
  lineStates : List LineCode
  /-- State and configuration of G0 to G7. -/
  groups : List (GroupState × GroupConfig)
  phase : BurstPhase
  deriving DecidableEq, Repr

/-- The four link speeds (R158). -/
inductive LinkSpeed where
  | b115200 | b460800 | b1000000 | b3000000
  deriving DecidableEq, Repr

/-- The bodies of replies, each the fields its owning rule lists. -/
inductive Body where
  | empty
  /-- WRONG_MODE and the accepted HOLD, RESUME, DISARM (R118). -/
  | mode (m : Mode)
  /-- An accepted ARM: the new mode and the BLOCKED groups (R118). -/
  | armed (m : Mode) (blocked : SmallSet)
  | configInvalid (f : ArmFailure)
  /-- SET_REFERENCE evaluated (R89). -/
  | groupState (st : GroupState)
  /-- GET_TIME (R70). -/
  | time (t : Nat)
  /-- SET_TIME (R69). -/
  | times (old new : Nat)
  /-- CUT: the MARK's sequence and its segment; absent is nothing-to-cut (R21). -/
  | cut (placed : Option (Nat × Nat))
  /-- RELEASE: released, new oldest (absent: empty), stopping segment (R30). -/
  | release (count : Nat) (oldest stop : Option Nat)
  /-- PIN with status OK (R33). -/
  | pin (already : Bool) (entries : Nat)
  /-- The number of pins: a refused PIN (R33), UNPIN (R34). -/
  | pins (entries : Nat)
  /-- ERASE at completion (R46). -/
  | erased (held nextSeq nextSeg : Nat)
  | spool (r : SpoolReport)
  /-- OPEN_CURSOR: position, oldest and newest held (R137). -/
  | opened (pos : Position) (ends : Option (Nat × Nat))
  /-- CLOSE_CURSOR (R138). -/
  | closed (already : Bool)
  /-- READ (R140, R208). -/
  | read (continued : Bool) (records : List Record) (pos : Option Position)
  /-- A position alone: STREAM (R149), LAPPED of SPACE, SKIP and STREAM (R147). -/
  | position (pos : Position)
  /-- SPACE (R142). -/
  | space (steps : Nat) (pos : Position)
  /-- SKIP (R143). -/
  | skip (seg : Option Nat) (pos : Position)
  /-- STOP_STREAM: the position; absent is not-streaming (R154). -/
  | stopped (pos : Option Position)
  | segments (erasing : Bool) (entries : List SegEntry) (more : Bool)
  /-- SET_NOTE (R195). -/
  | note (enable : Bool) (priority timeout : Nat) (st : ClassState) (noteNumber : Nat) (resendDue : Bool)
  /-- CREDIT (R202). -/
  | credit (n : Nat)
  /-- ACK_NOTE with status OK (R200). -/
  | classState (st : ClassState)
  /-- STALE_NOTE (R200). -/
  | stale (st : ClassState) (noteNumber : Option Nat)
  | status (r : StatusReport)
  /-- GET_COUNTERS: link counters, total lost, trip counts, cleared (R187). -/
  | counters (link lost trips : List Nat) (cleared : Bool)
  | identify (speed : LinkSpeed)
  deriving DecidableEq, Repr

/-- A status and a body (R183). -/
structure Reply where
  status : Status
  body : Body
  deriving DecidableEq, Repr

/-- A frame the recorder sends, with its owner (R168, R170). A REPLY frame says whether it is the last of its reply. -/
inductive Frame where
  | reply (tag : Byte) (code : Option Byte) (r : Reply) (last : Bool)
  | refusal (tag : Byte) (code : Option Byte) (status : Status)
  | streamEnd (cursor : CursorNo) (reason : StreamEnd)
  | notify (cls : ClassNo) (noteNumber : Nat) (resend : Bool) (detail : Detail)
  | data (cursor : CursorNo) (ended : Option StreamEnd) (records : List Record)
  deriving DecidableEq, Repr

/-- Receiver state with the partial frame and the gap timer, as the µs since the last byte's stop bit (R161, R164; log
entry 8). -/
inductive Receiver where
  | hunt
  | length (gap : Nat)
  | body (len : Nat) (got : List Byte) (crc : BitVec 16) (gap : Nat)
  | check (got : List Byte) (crc : BitVec 16) (first : Option Byte) (gap : Nat)
  | low
  deriving DecidableEq, Repr

/-- A request accepted at intake (R178). -/
structure Request where
  tag : Byte
  payload : List Byte
  deriving DecidableEq, Repr

/-- Stage of an outstanding request (R177). -/
inductive Stage where
  | queued
  | erasing (spool : SpoolNo)
  | replying
  deriving DecidableEq, Repr

/-- An entry of the outstanding set (R177). -/
structure Entry where
  tag : Byte
  code : Option Byte
  stage : Stage
  deriving DecidableEq, Repr

/-- The frame in transmission, and what is left of it: its length times ten bit times (R159), in units of which each
µs takes as many as the link speed has baud. -/
structure Transmission where
  frame : Frame
  left : Nat
  deriving DecidableEq, Repr

/-- The link controller (R161, R167, R168, R177 to R179). -/
structure Link where
  speed : LinkSpeed
  rx : Receiver
  /-- The present low period of the receive line has been taken as a break (R171). -/
  breakTaken : Bool
  intake : List Request
  outstanding : List Entry
  replyQueue : List Frame
  refusalSlots : Nat
  /-- The transmit path: absent is FREE. -/
  path : Option Transmission
  lastServed : CursorNo
  counters : Vector Nat 6
  deriving DecidableEq, Repr

/-! ### The recorder -/

/-- The recorder's state, block by block, and the model's queue of waiting commands. -/
structure State where
  /-- RSTn is low and the low level has taken effect (R131). -/
  inReset : Bool
  mode : Mode
  time : Nat
  spools : Vector Spool 4
  lines : Vector Line 32
  /-- Chatter window Wc in ms (R50). -/
  wc : Nat
  /-- Chatter release time Rc in ms (R50). -/
  rc : Nat
  groups : Vector Group 8
  burst : BurstUnit
  cursors : Vector Cursor 4
  link : Link
  notes : Notes
  /-- The model's queue of commands, first in, first out. -/
  pending : List Instr
  deriving DecidableEq, Repr

/-- What could stop the recorder with a fault: nothing. The manual answers every request with a status and counts
every link fault, so no constructor is needed and no step ends in a fault. -/
inductive Fault where
  deriving DecidableEq, Repr

/-- What a step can refuse. -/
inductive Refusal where
  /-- A command that has no meaning yet, raised by `exec` alone; safe. No arm raises it: every command has a meaning. -/
  | notModelled (mnemonic : String)
  deriving DecidableEq, Repr

/-! ### Values at pin reset -/

/-- A spool at pin reset (R27). -/
def Spool.atReset (capacity : Nat) (policy : Policy) (threshold : Nat) : Spool :=
  { capacity, policy, threshold, held := [], nextSeq := 1, nextSeg := 1, current := none, segCount := 0,
    burstSeg := false, reservation := false, tally := none, totalLost := 0, nearFull := .below, erasing := none,
    pins := [] }

/-- A line at pin reset, its pin sampled at `pin` (R71). -/
def Line.atReset (pin : Bool) : Line :=
  { cfg := { enabled := false, invert := false, qualify := .stable, q := 0, k := 0, logEdges := false, route := 0,
             lookback := false, capture := false },
    pin, qualified := pin, state := .idle, chatterCount := 0, window := none }

/-- A group at pin reset (R93). -/
def Group.atReset : Group :=
  { cfg := { enabled := false, members := 0, reference := 0, priority := 0, route := 0, action := .log, w := 1000,
             pinOnBurst := false },
    state := .off, tripCount := 0 }

/-- The burst controller at pin reset (R116). -/
def BurstUnit.atReset : BurstUnit :=
  { settings := { e := 0, m := 10000, h := 0, tl := 0, p := 4 }, phase := .idle, nextId := 1, ring := [] }

/-- A notification class at pin reset (R205). -/
def NoteClass.atReset : NoteClass :=
  { enable := false, priority := 0, timeout := 0, pendingDetail := none, outstanding := none, noteNumber := 0,
    timer := none, resendDue := false }

/-- The link controller at pin reset (R175, R189). DESIGN CHOICE (log entry 15), safe: no low period counts as already
taken as a break; R171 is silent on one that lasts through the reset. -/
def Link.atReset (speed : LinkSpeed) : Link :=
  { speed, rx := .hunt, breakTaken := false, intake := [], outstanding := [], replyQueue := [], refusalSlots := 0,
    path := none, lastServed := 3, counters := Vector.replicate 6 0 }

/-- Every block at its pin-reset values, with the line levels and link speed sampled there (R132). -/
def State.atReset (pins : LineSet) (speed : LinkSpeed) : State :=
  { inReset := false, mode := .setup, time := 0,
    spools := (Vector.replicate 4 (Spool.atReset 0 .halt 0)).set 0 (Spool.atReset 8192 .wrap 7168),
    lines := Vector.ofFn fun l : LineNo => Line.atReset (pins.getLsbD l.val),
    wc := 1000, rc := 1000,
    groups := Vector.replicate 8 Group.atReset,
    burst := BurstUnit.atReset,
    cursors := Vector.replicate 4 { state := .closed, inFlight := none },
    link := Link.atReset speed,
    notes := { classes := Vector.replicate 6 NoteClass.atReset, credit := 0 },
    pending := [] }

/-- The recorder right after pin reset. DESIGN CHOICE (log entry 9), unsafe: the levels of L0 to L31 and of both
straps are what the board gives; here all low (so 115200 baud). -/
def State.reset : State := State.atReset 0 .b115200

end Sys2Proof.Machine
end

