-- ==== Sys2Proof/Machine/Flags.lean ====
section
/-! DEFINITION. What the manual derives from the state instead of storing it: levels, conformity, occupancy and room,
near-full comparisons, segment descriptions, class states, ATTN, link speeds. -/

namespace Sys2Proof.Machine

/-! ### Lines and groups -/

/-- The raw level: the sampled pin level, inverted when the line's invert setting is yes (R51). -/
def Line.raw (l : Line) : Bool := l.pin ^^ l.cfg.invert

/-- Line state as GET_STATUS names it (R186). -/
def LineState.code : LineState → LineCode
  | .idle => .idle
  | .quiet => .quiet
  | .settling _ _ => .settling
  | .lockout _ => .lockout
  | .suppressed _ => .suppressed

/-- The raw levels of L0 to L31 (R186). -/
def rawLevels (lines : Vector Line 32) : LineSet := bitsOf fun l => lines[l].raw

/-- The qualified levels of L0 to L31 (R186). -/
def qualifiedLevels (lines : Vector Line 32) : LineSet := bitsOf fun l => lines[l].qualified

/-- Member levels of a group: each member's qualified level, 0 for each non-member (R3). -/
def memberLevels (lines : Vector Line 32) (g : GroupConfig) : LineSet := qualifiedLevels lines &&& g.members

/-- Every member's qualified level equals its reference level (R75). -/
def conforms (lines : Vector Line 32) (g : GroupConfig) : Bool :=
  (List.finRange 32).all fun l =>
    !g.members.getLsbD l.val || lines[l].qualified == g.reference.getLsbD l.val

/-- The state a group takes from the levels as they stand, where no trip is recorded (R85, R86, R89). -/
def standingState (lines : Vector Line 32) (g : GroupConfig) : GroupState :=
  if conforms lines g then .conforming else .blocked

/-- The trip time, present only while TRIPPED (R74). -/
def GroupState.tripTime : GroupState → Option Nat
  | .tripped t => some t
  | _ => none

/-! ### Spools -/

/-- Held records plus the reservation (R6). -/
def Spool.occupancy (sp : Spool) : Nat := sp.held.length + sp.reservation.toNat

/-- Capacity less occupancy (R6). -/
def Spool.free (sp : Spool) : Nat := sp.capacity - sp.occupancy

/-- A spool is enabled when its capacity is not 0 (R6). -/
def Spool.enabled (sp : Spool) : Bool := sp.capacity != 0

/-- The records an overwrite may remove: from the oldest up to the first in a pinned segment (R35). -/
def Spool.removableRun (sp : Spool) : List Record := sp.held.takeWhile fun r => !sp.pins.contains r.seg

/-- The spool's numbers allow `k` records (R13); `opening` says that they are those of a burst opening. -/
def Spool.numbersAllow (sp : Spool) (k : Nat) (opening : Bool) : Bool :=
  sp.nextSeq + k + sp.reservation.toNat ≤ max48 && ((sp.current.isSome && !opening) || sp.nextSeg < max32)

/-- Room for `k` records (R12, R13, R35). -/
def Spool.room (sp : Spool) (k : Nat) (opening : Bool := false) : Bool :=
  sp.numbersAllow k opening &&
    match sp.policy with
    | .halt => decide (k ≤ sp.free)
    | .wrap => decide (k ≤ sp.free + sp.removableRun.length)

/-- Count of the loss tally (R6). -/
def Spool.tallyCount (sp : Spool) : Nat := (sp.tally.map (·.count)).getD 0

/-- Oldest and newest held sequence, absent when the spool holds no record (R26). -/
def Spool.ends (sp : Spool) : Option (Nat × Nat) :=
  match sp.held.head?, sp.held.getLast? with
  | some a, some b => some (a.seq, b.seq)
  | _, _ => none

/-- The near-full state after the comparison at the end of an event that changed occupancy (R24). -/
def Spool.nearFullAfterEvent (sp : Spool) : NearFull :=
  match sp.nearFull with
  | .below => if sp.threshold ≠ 0 ∧ sp.threshold ≤ sp.occupancy then .above else .below
  | .above => if sp.occupancy < sp.threshold then .below else .above

/-- The near-full state after the comparison a SET_SPOOL makes (R9). -/
def Spool.nearFullAfterSet (sp : Spool) : NearFull :=
  match sp.nearFull with
  | .below => if sp.threshold ≠ 0 ∧ sp.threshold ≤ sp.occupancy then .above else .below
  | .above => if sp.threshold = 0 ∨ sp.occupancy < sp.threshold then .below else .above

/-! ### Segments (R18, R19, R145) -/

/-- The numbers of the segments with a held record, oldest first (R18). -/
def Spool.segNumbers (sp : Spool) : List Nat := (sp.held.map (·.seg)).eraseDups

/-- The burst id and record count of a MARK. -/
def RecordBody.markInfo : RecordBody → Option (Nat × Option Nat)
  | .mark _ n id => some (n, id)
  | _ => none

/-- The burst id of a BURST_OPEN. -/
def RecordBody.burstOpenId : RecordBody → Option Nat
  | .burstOpen id _ _ _ => some id
  | _ => none

/-- The entry of the segment with oldest held record `a`, newest `z`, records `rs` (R145); `openId` is the id of the
burst open on the spool, if one is. -/
def Spool.segEntry (sp : Spool) (openId : Option Nat) (a z : Record) (rs : List Record) : SegEntry :=
  let isCurrent := sp.current == some a.seg
  let mark := z.draft.body.markInfo
  { number := a.seg, firstHeld := a.seq, lastHeld := z.seq, heldCount := rs.length,
    state := if isCurrent then .current else if mark.isSome then .closed else .unterminated,
    truncated := !a.first,
    pinned := sp.pins.contains a.seg,
    burstId :=
      (rs.findSome? fun r => r.draft.body.burstOpenId)
        <|> (if isCurrent then openId else mark.bind (·.2)),
    markCount := if isCurrent then none else mark.map (·.1) }

/-- The entries of the held segments numbered `start` or above, oldest first (R144). -/
def Spool.segEntries (sp : Spool) (openId : Option Nat) (start : Nat) : List SegEntry :=
  (sp.segNumbers.filter fun n => start ≤ n).filterMap fun n =>
    let rs := sp.held.filter fun r => r.seg == n
    match rs.head?, rs.getLast? with
    | some a, some z => some (sp.segEntry openId a z rs)
    | _, _ => none

/-! ### Bursts -/

/-- The open burst, if the burst state is OPEN. -/
def BurstPhase.open? : BurstPhase → Option OpenBurst
  | .isOpen b => some b
  | _ => none

/-- A 48-bit deadline from its exact value: itself where it fits, a free value where it does not (log entry 5). -/
def deadlineOf (exact : Nat) : Nat := if exact ≤ max48 then exact else (Config.freeDeadline exact).toNat

/-! ### Notification classes -/

/-- The class numbers of R192. -/
abbrev tripClass : ClassNo := 0
abbrev burstEndClass : ClassNo := 1
abbrev nearFullClass : ClassNo := 2
abbrev lossClass : ClassNo := 3
abbrev chatterClass : ClassNo := 4
abbrev linkFaultClass : ClassNo := 5

/-- The link counters of R167, in its order. -/
abbrev lengthErrors : CounterNo := 0
abbrev checkErrors : CounterNo := 1
abbrev gapTimeouts : CounterNo := 2
abbrev characterErrors : CounterNo := 3
abbrev breaks : CounterNo := 4
abbrev refusalsDropped : CounterNo := 5

/-- Class state, from which details are present (R191). -/
def NoteClass.state (c : NoteClass) : ClassState :=
  match c.pendingDetail, c.outstanding with
  | none, none => .idle
  | some _, none => .pending
  | none, some _ => .outstanding
  | some _, some _ => .outstandingPending

/-- The class has a notification to send (R197). -/
def NoteClass.sendable (c : NoteClass) : Bool := c.enable && (c.state == .pending || c.resendDue)

/-- The class holds ATTN asserted (R203). -/
def NoteClass.attn (c : NoteClass) : Bool :=
  c.enable && (c.state == .pending || c.state == .outstandingPending || c.resendDue)

/-- ATTN is asserted, at the low level (R203); negated while RSTn is low (R131). -/
def attnAsserted (s : State) : Bool := !s.inReset && s.notes.classes.toList.any NoteClass.attn

/-! ### Link -/

/-- The straps' choice (R158); high is true. -/
def speedOf (spd1 spd0 : Bool) : LinkSpeed :=
  match spd1, spd0 with
  | false, false => .b115200
  | false, true => .b460800
  | true, false => .b1000000
  | true, true => .b3000000

/-- Baud of a link speed (R158). -/
def LinkSpeed.baud : LinkSpeed → Nat
  | .b115200 => 115200
  | .b460800 => 460800
  | .b1000000 => 1000000
  | .b3000000 => 3000000

/-- The µs a character takes, ten bit times, rounded up (R158). -/
def LinkSpeed.characterTime (speed : LinkSpeed) : Nat := (10 * 1000000 + speed.baud - 1) / speed.baud

/-- The tag table: the tags held by the outstanding set (R177). -/
def Link.tags (l : Link) : List Byte := l.outstanding.map (·.tag)

end Sys2Proof.Machine
end

