-- ==== Sys2Proof/Machine/Operands.lean ====
section
/-! DEFINITION. The fields of request payloads: codes and lengths (R212), byte order (R206), widths (R213), layouts
and ranges (R214 and each owning rule). A decoder answers `none` where a field is out of range, which check 2 of
R182 refuses BAD_ARGUMENT. -/

namespace Sys2Proof.Machine

/-! ### Codes and rows -/

/-- The catalogue: request code, payload length, row (R212, section 9.5). -/
def catalogue : List (Byte × Nat × Instr) :=
  [(0x01, 1, .arm), (0x02, 1, .hold), (0x03, 1, .resume), (0x04, 1, .disarm), (0x05, 1, .reset),
   (0x10, 8, .setLine), (0x11, 5, .setChatter), (0x12, 16, .setGroup), (0x13, 6, .setReference),
   (0x14, 7, .setSpool), (0x15, 12, .setBurst), (0x16, 6, .setNote), (0x20, 7, .setTime), (0x21, 1, .getTime)] ++
  [(0x30, 2, .cut), (0x31, 8, .release), (0x32, 6, .pin), (0x33, 6, .unpin), (0x34, 2, .erase), (0x35, 2, .getSpool),
   (0x40, 10, .openCursor), (0x41, 2, .closeCursor), (0x42, 3, .read), (0x43, 4, .space), (0x44, 4, .skip),
   (0x45, 5, .stream), (0x46, 2, .stopStream), (0x47, 7, .listSegments), (0x50, 2, .credit), (0x51, 3, .ackNote),
   (0x60, 1, .getStatus), (0x61, 2, .getCounters), (0x62, 1, .identify)]

/-- The request code, absent when the payload is too short to hold one (R177). -/
def Request.code (r : Request) : Option Byte := r.payload.head?

/-- The row that the taking of a request is: its code's when the length is the one the code requires, and
BAD_REQUEST_TAKEN otherwise (check 1 of R182). -/
def Request.row (r : Request) : Instr :=
  match catalogue.find? fun e => r.code == some e.1 && r.payload.length == e.2.1 with
  | some e => e.2.2
  | none => .badRequestTaken

/-! ### Fields -/

/-- The byte at an offset of a payload. -/
def byteAt (p : List Byte) (i : Nat) : Nat := (p.getD i 0).toNat

/-- A number sent least significant byte first (R206). -/
def leValue : List Byte → Nat
  | [] => 0
  | b :: bs => b.toNat + 256 * leValue bs

/-- The `n`-byte field at offset `i` of a payload. -/
def field (p : List Byte) (i n : Nat) : Nat := leValue ((p.drop i).take n)

/-- A number that names one of `n` resources. -/
def below (n k : Nat) : Option (Fin n) := if h : k < n then some ⟨k, h⟩ else none

/-- A yes/no byte: 00h or 01h (R212). -/
def yesNo (k : Nat) : Option Bool := if k = 0 then some false else if k = 1 then some true else none

/-- A number in a range. -/
def inRange (lo hi k : Nat) : Option Nat := if lo ≤ k ∧ k ≤ hi then some k else none

/-- A signed 16-bit count, not 0 (R142, R143, R213). -/
def signedCount (k : Nat) : Option Int :=
  if k = 0 then none else some (if k < 32768 then (k : Int) else (k : Int) - 65536)

/-- Qualify mode code (R207). -/
def qualifyOf (k : Nat) : Option QualifyMode :=
  if k = 0 then some .stable else if k = 1 then some .latch else none

/-- Policy code (R207). -/
def policyOf (k : Nat) : Option Policy := if k = 0 then some .wrap else if k = 1 then some .halt else none

/-- Action code (R207). -/
def actionOf (k : Nat) : Option Action := if k = 0 then some .log else if k = 1 then some .burst else none

/-! ### Layouts -/

/-- SET_LINE (R49, R214). -/
def decodeSetLine (p : List Byte) : Option (LineNo × LineConfig) := do
  let l ← below 32 (byteAt p 1)
  let flags ← inRange 0 31 (byteAt p 2)
  let qualify ← qualifyOf (byteAt p 3)
  let route ← below 4 (byteAt p 7)
  some (l, { enabled := flags.testBit 0, invert := flags.testBit 1, qualify, q := field p 4 2, k := byteAt p 6,
             logEdges := flags.testBit 2, route, lookback := flags.testBit 3, capture := flags.testBit 4 })

/-- SET_CHATTER: Wc, Rc in ms (R50). -/
def decodeSetChatter (p : List Byte) : Option (Nat × Nat) := do
  let wc ← inRange 1 65535 (field p 1 2)
  let rc ← inRange 10 65535 (field p 3 2)
  some (wc, rc)

/-- SET_GROUP (R72, R214); reference levels of non-members are stored as 0 (R73). -/
def decodeSetGroup (p : List Byte) : Option (GroupNo × GroupConfig) := do
  let g ← below 8 (byteAt p 1)
  let flags ← inRange 0 3 (byteAt p 2)
  let members := BitVec.ofNat 32 (field p 3 4)
  let priority ← inRange 0 3 (byteAt p 11)
  let route ← below 4 (byteAt p 12)
  let action ← actionOf (byteAt p 13)
  let w ← inRange 1 60000 (field p 14 2)
  some (g, { enabled := flags.testBit 0, members, reference := BitVec.ofNat 32 (field p 7 4) &&& members, priority,
             route, action, w, pinOnBurst := flags.testBit 1 })

/-- SET_REFERENCE: group, levels (R88). -/
def decodeSetReference (p : List Byte) : Option (GroupNo × LineSet) := do
  let g ← below 8 (byteAt p 1)
  some (g, BitVec.ofNat 32 (field p 2 4))

/-- A capacity the part accepts: 0, or a multiple of 64 between 64 and 8192 (R7). -/
def capacityOk (c : Nat) : Bool := c % 64 == 0 && c ≤ Config.recordSlots

/-- SET_SPOOL: spool, capacity, policy, threshold, each in its own range (R7); the sum with the other capacities is
checked against the state (`capacitySumOk`). -/
def decodeSetSpool (p : List Byte) : Option (SpoolNo × Nat × Policy × Nat) := do
  let i ← below 4 (byteAt p 1)
  let capacity ← if capacityOk (field p 2 2) then some (field p 2 2) else none
  let policy ← policyOf (byteAt p 4)
  let threshold ← inRange 0 capacity (field p 5 2)
  some (i, capacity, policy, threshold)

/-- SET_BURST: E, M, H, TL, P (R94). -/
def decodeSetBurst (p : List Byte) : Option BurstSettings := do
  let e ← inRange 0 60000 (field p 1 2)
  let m ← inRange 1 600000 (field p 3 4)
  let h ← inRange 0 60000 (field p 7 2)
  let tl ← inRange 0 1000 (field p 9 2)
  let pr ← inRange 0 4 (byteAt p 11)
  some { e, m, h, tl, p := pr }

/-- SET_NOTE: class, enable, priority, timeout (R195). -/
def decodeSetNote (p : List Byte) : Option (ClassNo × Bool × Nat × Nat) := do
  let c ← below 6 (byteAt p 1)
  let enable ← yesNo (byteAt p 2)
  let priority ← inRange 0 3 (byteAt p 3)
  let timeout ← if field p 4 2 = 0 then some 0 else inRange 10 10000 (field p 4 2)
  some (c, enable, priority, timeout)

/-- A spool number: CUT, ERASE, GET_SPOOL (R21, R39, R26). -/
def decodeSpool (p : List Byte) : Option SpoolNo := below 4 (byteAt p 1)

/-- RELEASE: spool, sequence (R29). -/
def decodeRelease (p : List Byte) : Option (SpoolNo × Nat) := do
  let i ← below 4 (byteAt p 1)
  some (i, field p 2 6)

/-- PIN and UNPIN: spool, segment (R33, R34). -/
def decodePin (p : List Byte) : Option (SpoolNo × Nat) := do
  let i ← below 4 (byteAt p 1)
  some (i, field p 2 4)

/-- The start of an OPEN_CURSOR (R136) from its code and its value bytes (R214). -/
inductive Start where
  | oldest | newest | atEnd
  | seq (n : Nat)
  | segment (s : Nat)
  deriving DecidableEq, Repr

/-- Start code and value (R214): the value is read only where the start uses it (R212). -/
def startOf (p : List Byte) : Option Start :=
  match byteAt p 3 with
  | 0 => some .oldest
  | 1 => some .newest
  | 2 => some .atEnd
  | 3 => some (.seq (field p 4 6))
  | 4 => some (.segment (field p 4 4))
  | _ => none

/-- OPEN_CURSOR: cursor, spool, start (R136, R214). -/
def decodeOpenCursor (p : List Byte) : Option (CursorNo × SpoolNo × Start) := do
  let c ← below 4 (byteAt p 1)
  let i ← below 4 (byteAt p 2)
  let st ← startOf p
  some (c, i, st)

/-- A cursor number: CLOSE_CURSOR, STOP_STREAM (R138, R154). -/
def decodeCursor (p : List Byte) : Option CursorNo := below 4 (byteAt p 1)

/-- READ: cursor, k (R140). -/
def decodeRead (p : List Byte) : Option (CursorNo × Nat) := do
  let c ← below 4 (byteAt p 1)
  let k ← inRange 1 8 (byteAt p 2)
  some (c, k)

/-- SPACE and SKIP: cursor, n (R142, R143). -/
def decodeMove (p : List Byte) : Option (CursorNo × Int) := do
  let c ← below 4 (byteAt p 1)
  let n ← signedCount (field p 2 2)
  some (c, n)

/-- STREAM: cursor, count, follow (R149). -/
def decodeStream (p : List Byte) : Option (CursorNo × Nat × Bool) := do
  let c ← below 4 (byteAt p 1)
  let follow ← yesNo (byteAt p 4)
  some (c, field p 2 2, follow)

/-- LIST_SEGMENTS: spool, starting segment, count (R144). -/
def decodeListSegments (p : List Byte) : Option (SpoolNo × Nat × Nat) := do
  let i ← below 4 (byteAt p 1)
  let n ← inRange 1 8 (byteAt p 6)
  some (i, field p 2 4, n)

/-- CREDIT: n (R202). -/
def decodeCredit (p : List Byte) : Option Nat := inRange 1 8 (byteAt p 1)

/-- ACK_NOTE: class, note number (R200). -/
def decodeAckNote (p : List Byte) : Option (ClassNo × Nat) := do
  let c ← below 6 (byteAt p 1)
  some (c, byteAt p 2)

/-- GET_COUNTERS: clear (R187). -/
def decodeGetCounters (p : List Byte) : Option Bool := yesNo (byteAt p 1)

end Sys2Proof.Machine
end

