-- ==== Sys2Proof/Machine/Spools.lean ====
section
/-! DEFINITION. The store's work on one spool: placing, removing, overwriting, the loss tally, the reservation. What a
removal does to cursors and what a loss raises is added in `Machine/Ops.lean`. -/

namespace Sys2Proof.Machine

/-- The record a spool would place for a draft (R13): its sequence, its segment, and for a MARK the segment count. -/
def Spool.newRecord (sp : Spool) (d : Draft) : Record :=
  { seq := sp.nextSeq,
    seg := sp.current.getD sp.nextSeg,
    first := sp.current.isNone,
    inBurst := sp.burstSeg,
    draft :=
      match d.body with
      | .mark reason _ id => { d with body := .mark reason (if sp.current.isSome then sp.segCount else 0) id }
      | _ => d }

/-- Placing a record (R13): it joins the newest end, takes the next numbers, opens a segment where none is open, and a
MARK closes the segment and clears the burst segment flag. -/
def Spool.place (sp : Spool) (d : Draft) : Spool :=
  let r := sp.newRecord d
  let count := if sp.current.isSome then sp.segCount else 0
  let isMark := d.body.markInfo.isSome
  { sp with
    held := sp.held ++ [r],
    nextSeq := sp.nextSeq + 1,
    nextSeg := if sp.current.isSome then sp.nextSeg else sp.nextSeg + 1,
    current := if isMark then none else some r.seg,
    burstSeg := if isMark then false else sp.burstSeg,
    segCount := if isMark then count else satAdd max32 count 1 }

/-- The `n` oldest records leave the spool (R17); a segment whose last held record leaves is dropped from the pin
table (R32). -/
def Spool.removeOldest (sp : Spool) (n : Nat) : Spool :=
  let kept := sp.held.drop n
  { sp with
    held := kept,
    pins := sp.pins.filter fun p =>
      kept.any (fun r => r.seg == p) || !(sp.held.take n).any (fun r => r.seg == p) }

/-- How many records an overwrite removes so that free space reaches `k`: none under HALT, and never one of a pinned
segment (R14, R35). -/
def Spool.overwriteCount (sp : Spool) (k : Nat) : Nat :=
  match sp.policy with
  | .halt => 0
  | .wrap => min (k - sp.free) sp.removableRun.length

/-- Overwrite until free space is `k` (R14). -/
def Spool.makeRoom (sp : Spool) (k : Nat) : Spool := sp.removeOldest (sp.overwriteCount k)

/-- The sequence numbers an overwrite for `k` hands to the cursor unit (R14). -/
def Spool.overwritten (sp : Spool) (k : Nat) : List Nat := (sp.held.take (sp.overwriteCount k)).map (·.seq)

/-- A record stamped `t` joins the loss tally (R15). -/
def Spool.lose (sp : Spool) (t : Nat) : Spool :=
  { sp with
    tally := some (match sp.tally with
      | some ty => { count := satAdd max32 ty.count 1, first := ty.first, last := t }
      | none => { count := 1, first := t, last := t }),
    totalLost := satAdd max32 sp.totalLost 1 }

/-- The LOSS record of a tally, stamped with the time of the event (R2, R5). -/
def lossDraft (now : Nat) (ty : Tally) : Draft :=
  { body := .loss (min ty.count max16) ty.first ty.last, timestamp := now }

/-- The LOSS record of the tally is placed and the tally cleared (R16). -/
def Spool.settle (sp : Spool) (now : Nat) : Spool :=
  match sp.tally with
  | some ty => { sp.place (lossDraft now ty) with tally := none }
  | none => sp

/-- What an ordinary append did: the spool after it, the sequences overwritten, the sequence the record took if it was
placed, and whether it joined the tally. -/
structure Appended where
  spool : Spool
  removed : List Nat
  placed : Option Nat
  lost : Bool
  deriving DecidableEq, Repr

/-- A record that joins the tally without anything placed. -/
def Spool.appendLost (sp : Spool) (d : Draft) : Appended :=
  { spool := sp.lose d.timestamp, removed := [], placed := none, lost := true }

/-- An ordinary append at time `now` (R12, R16). -/
def Spool.append (sp : Spool) (now : Nat) (d : Draft) : Appended :=
  if sp.enabled = false then { spool := sp, removed := [], placed := none, lost := false }
  else if sp.erasing.isSome then sp.appendLost d
  else if sp.tally.isSome then
    if sp.room 2 then
      let settled := (sp.makeRoom 2).settle now
      { spool := settled.place d, removed := sp.overwritten 2, placed := some settled.nextSeq, lost := false }
    else if sp.room 1 then
      { spool := ((sp.makeRoom 1).settle now).lose d.timestamp, removed := sp.overwritten 1, placed := none, lost := true }
    else sp.appendLost d
  else if sp.room 1 then
    { spool := (sp.makeRoom 1).place d, removed := sp.overwritten 1, placed := some sp.nextSeq, lost := false }
  else sp.appendLost d

/-- Filling the reservation with a MARK (R23): no record is removed and the tally is not processed. -/
def Spool.fill (sp : Spool) (d : Draft) : Spool := { sp with reservation := false }.place d

/-- Dropping the reservation at soft RESET, the segment left unclosed (R25). -/
def Spool.abandonBurst (sp : Spool) : Spool :=
  { sp with reservation := false, current := none, burstSeg := false }

/-- A segment number put into the pin table, which stays in ascending order (R32). -/
def insertPin (s : Nat) : List Nat → List Nat
  | [] => [s]
  | p :: ps => if s < p then s :: p :: ps else if s = p then p :: ps else p :: insertPin s ps

/-- How many records a RELEASE up to `n` removes (R30): the oldest run numbered `n` or less outside pinned segments. -/
def Spool.releaseCount (sp : Spool) (n : Nat) : Nat :=
  (sp.held.takeWhile fun r => decide (r.seq ≤ n) && !sp.pins.contains r.seg).length

/-- The start of an erase at the store, and the bound on its length: the spool becomes ERASING, its pins and tally are
cleared (R40); an erase of an empty spool completes at once (R39). -/
def Spool.startErase (sp : Spool) : Spool :=
  { sp with erasing := some (if sp.held.isEmpty then 0 else Config.eraseBound), pins := [], tally := none }

/-- The completion of an erase at the store (R46). -/
def Spool.finishErase (sp : Spool) : Spool :=
  { sp.removeOldest sp.held.length with
    current := none, burstSeg := false, segCount := 0, nearFull := .below, erasing := none }

end Sys2Proof.Machine
end

