-- ==== Sys2Proof/Machine/Wire.lean ====
section
/-! DEFINITION. The bytes of the frames the recorder sends: CRC (R160), frame layout (R206), codes (R207), reply and
notification bodies (R208 to R210), record slots (R211), field widths (R213). The layout of a reply body that chapter
11 does not draw follows the conventions of R206: its owning rule's fields in the order listed (log entry 11). -/

namespace Sys2Proof.Machine

/-! ### CRC -/

/-- One bit of the CRC register, generator x^16 + x^12 + x^5 + 1 (R160). -/
def crcShift (c : BitVec 16) : BitVec 16 := if c.msb then (c <<< 1) ^^^ 0x1021#16 else c <<< 1

/-- A byte fed into the CRC register most significant bit first (R160). -/
def crcByte (c : BitVec 16) (b : Byte) : BitVec 16 :=
  crcShift (crcShift (crcShift (crcShift (crcShift (crcShift (crcShift (crcShift (c ^^^ (b.setWidth 16 <<< 8)))))))))

/-- The CRC register's start: all ones (R160). -/
def crcInit : BitVec 16 := 0xFFFF#16

/-- The CRC of some bytes (R160). -/
def crcOf (bs : List Byte) : BitVec 16 := bs.foldl crcByte crcInit

/-! ### Fields -/

/-- A number in `k` bytes, least significant first (R206). -/
def leBytes : Nat → Nat → List Byte
  | 0, _ => []
  | k + 1, n => BitVec.ofNat 8 n :: leBytes k (n / 256)

/-- One byte. -/
def byte (n : Nat) : Byte := BitVec.ofNat 8 n

/-- A yes/no item (R206). -/
def boolByte (b : Bool) : Byte := if b then 1 else 0

/-- An optional `k`-byte field with its presence byte (R206). -/
def optField (k : Nat) : Option Nat → List Byte
  | some n => 1 :: leBytes k n
  | none => 0 :: leBytes k 0

/-- Two fields that are absent together, behind one presence byte (R206). -/
def optPair (k l : Nat) : Option (Nat × Nat) → List Byte
  | some (a, b) => 1 :: (leBytes k a ++ leBytes l b)
  | none => 0 :: (leBytes k 0 ++ leBytes l 0)

/-- A position: sequence and at-END byte (R206). -/
def positionBytes (p : Position) : List Byte := leBytes 6 p.seq ++ [boolByte p.atEnd]

/-- A list with its count byte (R206). -/
def listBytes {α : Type} (f : α → List Byte) (l : List α) : List Byte := byte l.length :: l.flatMap f

/-- The value of a bitmap in bytes (R206). -/
def bitmap {w : Nat} (k : Nat) (b : BitVec w) : List Byte := leBytes k b.toNat

/-! ### Codes (R207) -/

def Status.toCode : Status → Byte
  | .ok => 0x00 | .busy => 0x01 | .tagInUse => 0x02 | .badRequest => 0x03 | .badArgument => 0x04
  | .wrongMode => 0x05 | .configInvalid => 0x06 | .spoolDisabled => 0x07 | .spoolBusy => 0x08 | .spoolFull => 0x09
  | .spoolNotEmpty => 0x0A | .burstActive => 0x0B | .noSuchRecord => 0x0C | .noSuchSegment => 0x0D
  | .pinTableFull => 0x0E | .notPinned => 0x0F | .atOldest => 0x10 | .atEnd => 0x11 | .lapped => 0x12
  | .noCursor => 0x13 | .cursorBusy => 0x14 | .staleNote => 0x15

def Mode.toCode : Mode → Byte
  | .setup => 0 | .armed => 1 | .hold => 2

def ModeCause.toCode : ModeCause → Byte
  | .arm => 1 | .hold => 2 | .resume => 3 | .disarm => 4

def LineCode.toCode : LineCode → Byte
  | .idle => 0 | .quiet => 1 | .settling => 2 | .lockout => 3 | .suppressed => 4

def GroupState.toCode : GroupState → Byte
  | .off => 0 | .conforming => 1 | .tripped _ => 2 | .blocked => 3

def BurstPhase.toCode : BurstPhase → Byte
  | .idle => 0 | .isOpen _ => 1 | .cooldown _ _ _ _ => 2

def Disposition.toCode : Disposition → Byte
  | .none => 0 | .opened => 1 | .extended => 2 | .suppressed => 3 | .refused => 4

def MarkReason.toCode : MarkReason → Byte
  | .cut => 1 | .burstStart => 2 | .burstEnd => 3 | .held => 4 | .disarmed => 5

def StreamEnd.toCode : StreamEnd → Byte
  | .count => 1 | .atEnd => 2 | .stopped => 3 | .lapped => 4 | .erased => 5 | .closed => 6

def Policy.toCode : Policy → Byte
  | .wrap => 0 | .halt => 1

def Action.toCode : Action → Byte
  | .log => 0 | .burst => 1

def SegState.toCode : SegState → Byte
  | .current => 0 | .closed => 1 | .unterminated => 2

def ConfigFault.toCode : ConfigFault → Byte
  | .noMembers => 1 | .disabledMember => 2 | .disabledRoute => 3

def ClassState.toCode : ClassState → Byte
  | .idle => 0 | .pending => 1 | .outstanding => 2 | .outstandingPending => 3

def NearFull.toCode : NearFull → Byte
  | .below => 0 | .above => 1

/-! ### Record slots (R211) -/

/-- Kind code of a record (R211). -/
def RecordBody.kindCode : RecordBody → Byte
  | .edge .. => 0x01 | .trip .. => 0x02 | .change .. => 0x03 | .restore .. => 0x04 | .reference .. => 0x05
  | .chatter .. => 0x06 | .chatterEnd .. => 0x07 | .burstOpen .. => 0x08 | .mark .. => 0x09 | .loss .. => 0x0A
  | .timeStep .. => 0x0B | .mode .. => 0x0C

/-- Bit 5 of a slot's flags: the kind's optional field is present (R211). -/
def RecordBody.optPresent : RecordBody → Bool
  | .trip _ _ _ _ _ id => id.isSome
  | .restore _ _ _ d => d.isSome
  | .mark _ _ id => id.isSome
  | _ => false

/-- The body fields of a record's kind, without the zeros that fill the slot (R211). -/
def RecordBody.fields : RecordBody → List Byte
  | .edge l v => [byte l.val, boolByte v]
  | .trip g c lv n d id =>
      [byte g.val, byte c.val] ++ bitmap 4 lv ++ leBytes 2 n ++ [d.toCode] ++ leBytes 2 (id.getD 0)
  | .change g l lv => [byte g.val, byte l.val] ++ bitmap 4 lv
  | .restore g l lv d => [byte g.val, byte l.val] ++ bitmap 4 lv ++ leBytes 6 (d.getD 0)
  | .reference g lv st => [byte g.val] ++ bitmap 4 lv ++ [st.toCode]
  | .chatter l n v => [byte l.val, byte n, boolByte v]
  | .chatterEnd l v ch => [byte l.val, boolByte v, boolByte ch]
  | .burstOpen id g d n => leBytes 2 id ++ [byte g.val] ++ leBytes 6 d ++ [byte n]
  | .mark r n id => [r.toCode] ++ leBytes 4 n ++ leBytes 2 (id.getD 0)
  | .loss n a b => leBytes 2 n ++ leBytes 6 a ++ leBytes 6 b
  | .timeStep o n => leBytes 6 o ++ leBytes 6 n
  | .mode m c => [m.toCode, c.toCode]

/-- Bytes filled with zeros up to `n` (R211). -/
def padTo (n : Nat) (bs : List Byte) : List Byte := (bs ++ List.replicate n 0).take n

/-- The flags byte of a slot (R211). -/
def Record.flags (r : Record) : Byte :=
  byte (r.first.toNat + 2 * r.inBurst.toNat + 4 * r.draft.lookback.toNat + 8 * r.draft.late.toNat
    + 16 * r.draft.afterChatter.toNat + 32 * r.draft.body.optPresent.toNat)

/-- The 32-byte slot of a record (R211). -/
def Record.slot (r : Record) : List Byte :=
  [r.draft.body.kindCode, r.flags] ++ leBytes 4 r.seg ++ leBytes 6 r.seq ++ leBytes 6 r.draft.timestamp
    ++ padTo 14 r.draft.body.fields

/-! ### Notification details (R210) -/

def Detail.bytes : Detail → List Byte
  | .trip gs n first =>
      bitmap 1 gs ++ leBytes 2 n
        ++ (match first with
            | some (sp, q) => [1, byte sp.val] ++ leBytes 6 q
            | none => [0, 0] ++ leBytes 6 0)
  | .burstEnd n id sp seg rc pinned =>
      leBytes 2 n ++ leBytes 2 id ++ [byte sp.val] ++ leBytes 4 seg ++ leBytes 4 rc ++ [boolByte pinned]
  | .nearFull ss => bitmap 1 ss
  | .loss ss n => bitmap 1 ss ++ leBytes 2 n
  | .chatter ls => bitmap 4 ls
  | .linkFault cs => bitmap 1 cs

/-! ### Reply bodies -/

/-- CONFIG_INVALID (R120): check; group; fault; member; W and M; line and route, each absent where it does not apply. -/
def ArmFailure.bytes : ArmFailure → List Byte
  | .noSpool => [1] ++ optField 1 none ++ optField 1 none ++ optField 1 none ++ optPair 2 4 none ++ optPair 1 1 none
  | .group g f m =>
      [2] ++ optField 1 (some g.val) ++ optField 1 (some f.toCode.toNat) ++ optField 1 (m.map (·.val))
        ++ optPair 2 4 none ++ optPair 1 1 none
  | .window g w m =>
      [3] ++ optField 1 (some g.val) ++ optField 1 none ++ optField 1 none ++ optPair 2 4 (some (w, m)) ++ optPair 1 1 none
  | .line l r =>
      [4] ++ optField 1 none ++ optField 1 none ++ optField 1 none ++ optPair 2 4 none ++ optPair 1 1 (some (l.val, r.val))

/-- A segment entry (R145), in the order and widths of R145, R206 and R213: 29 bytes. DEDUCED (log entry 11), unsafe: R209
calls its 227 bytes the largest reply body, and 8 of these entries make a longer one; the widths are followed. -/
def SegEntry.bytes (e : SegEntry) : List Byte :=
  leBytes 4 e.number ++ leBytes 6 e.firstHeld ++ leBytes 6 e.lastHeld ++ leBytes 2 e.heldCount
    ++ [e.state.toCode, boolByte e.truncated, boolByte e.pinned] ++ optField 2 e.burstId ++ optField 4 e.markCount

/-- GET_SPOOL (R26). -/
def SpoolReport.bytes (r : SpoolReport) : List Byte :=
  leBytes 2 r.capacity ++ [r.policy.toCode] ++ leBytes 2 r.threshold ++ leBytes 2 r.heldCount
    ++ [boolByte r.reservation] ++ leBytes 2 r.free ++ optPair 6 6 r.ends ++ leBytes 6 r.nextSeq ++ leBytes 4 r.nextSeg
    ++ [boolByte r.segOpen] ++ optPair 4 4 r.current ++ [boolByte r.burstSeg] ++ leBytes 4 r.tallyCount
    ++ optPair 6 6 r.lostTimes ++ leBytes 4 r.totalLost ++ [r.nearFull.toCode, boolByte r.erasing]
    ++ listBytes (leBytes 4) r.pins

/-- One group of GET_STATUS, 21 bytes (R209). -/
def groupStatusBytes (st : GroupState) (c : GroupConfig) : List Byte :=
  [st.toCode, byte (c.enabled.toNat + 2 * c.pinOnBurst.toNat + 4 * st.tripTime.isSome.toNat)] ++ bitmap 4 c.members
    ++ bitmap 4 c.reference ++ [byte c.priority, byte c.route.val, c.action.toCode] ++ leBytes 2 c.w
    ++ leBytes 6 (st.tripTime.getD 0)

/-- The burst part of GET_STATUS, 18 bytes (R209). -/
def BurstPhase.bytes (ph : BurstPhase) : List Byte :=
  [ph.toCode] ++
    match ph with
    | .idle => [0] ++ leBytes 2 0 ++ [0, 0] ++ leBytes 6 0 ++ leBytes 6 0
    | .isOpen b => [3] ++ leBytes 2 b.id ++ [byte b.spool.val, byte b.group.val] ++ leBytes 6 b.t0 ++ leBytes 6 b.deadline
    | .cooldown id sp g _ => [1] ++ leBytes 2 id ++ [byte sp.val, byte g.val] ++ leBytes 6 0 ++ leBytes 6 0

/-- GET_STATUS (R209). -/
def StatusReport.bytes (r : StatusReport) : List Byte :=
  [r.mode.toCode] ++ bitmap 4 r.raw ++ bitmap 4 r.qualified ++ r.lineStates.map (·.toCode)
    ++ r.groups.flatMap (fun g => groupStatusBytes g.1 g.2) ++ r.phase.bytes

/-- IDENTIFY (R188). -/
def identifyBytes (speed : LinkSpeed) : List Byte :=
  leBytes 2 3208 ++ [1, 32, 8, 4] ++ leBytes 2 8192 ++ [32, 4, 4, 8, 6, 4, 2, 6, 8, 16] ++ leBytes 4 speed.baud

/-- The bytes of a reply body, those that chapter 11 does not draw by the conventions of R206 and R213 (DEDUCED, log
entry 11). DESIGN CHOICE (log entry 16): the state in a SET_REFERENCE reply has no presence byte. -/
def Body.bytes : Body → List Byte
  | .empty => []
  | .mode m => [m.toCode]
  | .armed m gs => [m.toCode] ++ bitmap 1 gs
  | .configInvalid f => f.bytes
  | .groupState st => [st.toCode]
  | .time t => leBytes 6 t
  | .times o n => leBytes 6 o ++ leBytes 6 n
  | .cut placed => boolByte placed.isNone :: optPair 6 4 placed
  | .release n oldest stop => leBytes 2 n ++ optField 6 oldest ++ optField 4 stop
  | .pin already n => [boolByte already, byte n]
  | .pins n => [byte n]
  | .erased h q g => leBytes 2 h ++ leBytes 6 q ++ leBytes 4 g
  | .spool r => r.bytes
  | .opened p ends => positionBytes p ++ optPair 6 6 ends
  | .closed already => [boolByte already]
  | .read cont rs pos =>
      [byte (cont.toNat + 2 * pos.isSome.toNat), byte rs.length]
        ++ (match pos with
            | some p => positionBytes p
            | none => List.replicate 7 0)
        ++ rs.flatMap Record.slot
  | .position p => positionBytes p
  | .space n p => leBytes 2 n ++ positionBytes p
  | .skip seg p => optField 4 seg ++ positionBytes p
  | .stopped pos =>
      boolByte pos.isNone ::
        (match pos with
         | some p => 1 :: positionBytes p
         | none => 0 :: List.replicate 7 0)
  | .segments er es more => listBytes SegEntry.bytes es ++ [boolByte er, boolByte more]
  | .note en pr t st n due =>
      [boolByte en, byte pr] ++ leBytes 2 t ++ [st.toCode, byte n, boolByte due]
  | .credit n => [byte n]
  | .classState st => [st.toCode]
  | .stale st n => st.toCode :: optField 1 n
  | .status r => r.bytes
  | .counters link lost trips cleared =>
      link.flatMap (leBytes 2) ++ lost.flatMap (leBytes 4) ++ trips.flatMap (leBytes 2) ++ [boolByte cleared]
  | .identify speed => identifyBytes speed

/-! ### Frames (R206) -/

/-- Kind, tag and payload of a frame (R206). -/
def Frame.parts : Frame → Byte × Byte × List Byte
  | .reply tag code r _ => (0x02, tag, [code.getD 0, r.status.toCode] ++ r.body.bytes)
  | .refusal tag code st => (0x02, tag, [code.getD 0, st.toCode])
  | .notify c n resend d => (0x03, byte n, [byte c.val, byte n, boolByte resend] ++ d.bytes)
  | .streamEnd c reason => (0x04, byte c.val, [byte c.val, 1, reason.toCode, 0])
  | .data c ended rs =>
      (0x04, byte c.val,
        [byte c.val, boolByte ended.isSome, (ended.map (·.toCode)).getD 0, byte rs.length] ++ rs.flatMap Record.slot)

/-- A frame's length byte and body: what its check covers (R160). -/
def frameBody (kind tag : Byte) (payload : List Byte) : List Byte :=
  byte (payload.length + 2) :: kind :: tag :: payload

/-- The bytes of a frame: start, length, body, check high byte first (R160, R206). -/
def frameBytes (kind tag : Byte) (payload : List Byte) : List Byte :=
  let covered := frameBody kind tag payload
  let crc := crcOf covered
  0xC3 :: covered ++ [(crc >>> 8).setWidth 8, crc.setWidth 8]

/-- The bytes of a frame the recorder sends. -/
def Frame.bytes (f : Frame) : List Byte := frameBytes f.parts.1 f.parts.2.1 f.parts.2.2

/-- A frame's length in bytes: start, length, kind, tag, payload, check (R160). -/
def Frame.size (f : Frame) : Nat := f.parts.2.2.length + 6

end Sys2Proof.Machine
end

