-- ==== Sys2Proof/Machine/Ops.lean ====
section
/-! DEFINITION. The operations the meanings share: updates of one spool, line, group, cursor or class; raising a
notification class; an ordinary append with its laps and losses; the end of an event; frames made ready; the taking
of a request. -/

namespace Sys2Proof.Machine

/-! ### Updates -/

def State.setSpool (s : State) (i : SpoolNo) (sp : Spool) : State := { s with spools := s.spools.set i sp }
def State.setLine (s : State) (l : LineNo) (ln : Line) : State := { s with lines := s.lines.set l ln }
def State.setGroup (s : State) (g : GroupNo) (gr : Group) : State := { s with groups := s.groups.set g gr }
def State.setCursor (s : State) (c : CursorNo) (cu : Cursor) : State := { s with cursors := s.cursors.set c cu }
def State.setCursors (s : State) (cs : Vector Cursor 4) : State := { s with cursors := cs }
def State.setPhase (s : State) (p : BurstPhase) : State := { s with burst := { s.burst with phase := p } }
def State.setRing (s : State) (r : List RingEntry) : State := { s with burst := { s.burst with ring := r } }
def State.setLink (s : State) (l : Link) : State := { s with link := l }
def State.setClass (s : State) (c : ClassNo) (nc : NoteClass) : State :=
  { s with notes := { s.notes with classes := s.notes.classes.set c nc } }
def State.setCredit (s : State) (n : Nat) : State := { s with notes := { s.notes with credit := n } }
def State.setMode (s : State) (m : Mode) : State := { s with mode := m }
def State.setTime (s : State) (t : Nat) : State := { s with time := t }

/-! ### Notification occurrences (R192 to R194) -/

/-- The merged detail of an earlier and a later detail of one class (R193). Details of one class have one shape; for
two of different shapes, which no class holds, the earlier is kept. -/
def Detail.merge (earlier later : Detail) : Detail :=
  match earlier, later with
  | .trip g n f, .trip g' n' f' => .trip (g ||| g') (satAdd max16 n n') (f <|> f')
  | .burstEnd n _ _ _ _ _, .burstEnd n' id sp seg rc pinned => .burstEnd (satAdd max16 n n') id sp seg rc pinned
  | .nearFull a, .nearFull b => .nearFull (a ||| b)
  | .loss a n, .loss b n' => .loss (a ||| b) (satAdd max16 n n')
  | .chatter a, .chatter b => .chatter (a ||| b)
  | .linkFault a, .linkFault b => .linkFault (a ||| b)
  | d, _ => d

/-- Merging where either may be empty (R193). -/
def mergeDetails : Option Detail → Option Detail → Option Detail
  | some a, some b => some (a.merge b)
  | some a, none => some a
  | none, b => b

/-- An occurrence taken by a class (R194): a disabled class ignores it. -/
def NoteClass.take (c : NoteClass) (d : Detail) : NoteClass :=
  if c.enable then { c with pendingDetail := mergeDetails c.pendingDetail (some d) } else c

/-- A class is raised with the detail of one occurrence. -/
def raise (c : ClassNo) (d : Detail) (s : State) : State := s.setClass c (s.notes.classes[c].take d)

/-- A link fault is counted and raised (R167). -/
def countFault (k : CounterNo) (s : State) : State :=
  raise linkFaultClass (.linkFault (single k))
    (s.setLink { s.link with counters := s.link.counters.set k (satAdd max16 s.link.counters[k] 1) })

/-! ### Removals and cursors (R146) -/

/-- What a removal of some sequences of spool `i` does to a cursor (R146). -/
def Cursor.lap (i : SpoolNo) (removed : List Nat) (c : Cursor) : Cursor :=
  match c.state with
  | .positioned sp p => if sp = i ∧ p ∈ removed then { state := .lapped i, inFlight := none } else c
  | .streaming sp p _ _ => if sp = i ∧ p ∈ removed then { state := .lapped i, inFlight := none } else c
  | _ => c

/-- The removed sequences of spool `i` are handed to the cursor unit (R146). -/
def lapCursors (i : SpoolNo) (removed : List Nat) (s : State) : State := s.setCursors (mapV (Cursor.lap i removed) s.cursors)

/-! ### Appends (R12) -/

/-- An ordinary append to spool `i` (R12 to R16, R146), and the sequence the record took if it was placed. -/
def append (i : SpoolNo) (d : Draft) (s : State) : State × Option Nat :=
  let a := s.spools[i].append s.time d
  let placed := lapCursors i a.removed (s.setSpool i a.spool)
  (if a.lost then raise lossClass (.loss (single i) 1) placed else placed, a.placed)

/-- An ordinary append whose place in the spool is not asked for. -/
def appendTo (i : SpoolNo) (d : Draft) (s : State) : State := (append i d s).1

/-- An ordinary append to every enabled spool, S0 to S3 in turn (R69, R125). -/
def appendToAll (d : Draft) (s : State) : State :=
  (List.finRange 4).foldl (fun s i => if s.spools[i].enabled then appendTo i d s else s) s

/-- A direct placement (R22): oldest records are removed first under WRAP where needed, with no tally processing. -/
def placeDirect (i : SpoolNo) (d : Draft) (s : State) : State :=
  let sp := s.spools[i]
  lapCursors i (sp.overwritten 1) (s.setSpool i ((sp.makeRoom 1).place d))

/-- The slot to be reserved is set aside (R22): made free and counted as occupied from then on. -/
def setAside (i : SpoolNo) (s : State) : State :=
  let sp := s.spools[i]
  lapCursors i (sp.overwritten 1) (s.setSpool i { sp.makeRoom 1 with reservation := true })

/-! ### The end of an event -/

/-- A frame joins the newest end of the reply queue (R168). -/
def pushFrame (f : Frame) (s : State) : State := s.setLink { s.link with replyQueue := s.link.replyQueue ++ [f] }

/-- Why the event from `s0` to `s` ended a cursor's stream by lapping it: the start of an erase of its spool, or a
removal (R42, R146); `none` where it did not. -/
def streamLapped (s0 s : State) (c : CursorNo) : Option StreamEnd :=
  match s0.cursors[c].state, s.cursors[c].state with
  | .streaming i _ _ _, .lapped _ =>
      some (if s.spools[i].erasing.isSome && s0.spools[i].erasing.isNone then .erased else .lapped)
  | _, _ => none

/-- The STREAM_END frames of the streams an event lapped join the reply queue in ascending cursor number (R153). -/
def endLappedStreams (s0 s : State) : State :=
  (List.finRange 4).foldl
    (fun acc c => match streamLapped s0 s c with
      | some reason => pushFrame (.streamEnd c reason) acc
      | none => acc) s

/-- A spool's near-full state is set, and NEAR_FULL raised where it goes from BELOW to ABOVE (R9, R24). -/
def setNearFull (i : SpoolNo) (nf : NearFull) (s : State) : State :=
  let sp := s.spools[i]
  let s' := s.setSpool i { sp with nearFull := nf }
  if sp.nearFull = .below ∧ nf = .above then raise nearFullClass (.nearFull (single i)) s' else s'

/-- Near-full is evaluated once for each spool whose occupancy the event changed (R24). -/
def evaluateNearFull (s0 s : State) : State :=
  (List.finRange 4).foldl
    (fun acc i =>
      if s0.spools[i].occupancy = acc.spools[i].occupancy then acc
      else setNearFull i acc.spools[i].nearFullAfterEvent acc) s

/-- The end of an event that began in `s0` (R24, R153). -/
def closeEvent (s0 s : State) : State := evaluateNearFull s0 (endLappedStreams s0 s)

/-- An event of the recording blocks: its effect, then its end. -/
def recording (f : State → State) (s : State) : State := closeEvent s (f s)

/-- As `recording`, for an effect that also answers something. -/
def recordingWith {α : Type} (f : State → State × α) (s : State) : State × α :=
  let r := f s
  (closeEvent s r.1, r.2)

/-! ### Replies and the taking of a request (R181 to R183) -/

/-- The frames of a reply: one, except for a READ of 7 or 8 records (R141). -/
def replyFrames (tag : Byte) (code : Option Byte) (r : Reply) : List Frame :=
  match r.body with
  | .read _ rs pos =>
      if rs.length ≤ Config.recordsPerFrame then [.reply tag code r true]
      else
        [.reply tag code { r with body := .read true (rs.take Config.recordsPerFrame) none } false,
         .reply tag code { r with body := .read false (rs.drop Config.recordsPerFrame) pos } true]
  | _ => [.reply tag code r true]

/-- The outstanding entry with a tag takes a stage (R177). -/
def setStage (tag : Byte) (st : Stage) (es : List Entry) : List Entry :=
  es.map fun e => if e.tag = tag then { e with stage := st } else e

/-- A reply is made ready: its frames join the reply queue and the entry passes to REPLYING (R177, R181). -/
def makeReady (tag : Byte) (code : Option Byte) (r : Reply) (s : State) : State :=
  s.setLink { s.link with
    replyQueue := s.link.replyQueue ++ replyFrames tag code r,
    outstanding := setStage tag .replying s.link.outstanding }

/-- The taking of the oldest request of the intake queue as an event of one row (R181): it leaves the queue, `f`
carries it out, and its reply is made ready. Where the oldest request is not of that row, or none waits, the event
cannot occur and nothing changes (log entry 2). -/
def serve (row : Instr) (f : List Byte → State → State × Reply) (s : State) : State :=
  match s.link.intake with
  | r :: rest =>
      if r.row = row then
        let done := f r.payload (s.setLink { s.link with intake := rest })
        makeReady r.tag r.code done.2 done.1
      else s
  | [] => s

/-- Check 2 of R182: fields out of range are refused BAD_ARGUMENT. -/
def withFields {α : Type} (fields : Option α) (k : α → State → State × Reply) (s : State) : State × Reply :=
  match fields with
  | some a => k a s
  | none => (s, ⟨.badArgument, .empty⟩)

/-- A refusal at check 3 of R182, with the present mode. -/
def wrongMode (s : State) : State × Reply := (s, ⟨.wrongMode, .mode s.mode⟩)

/-- Check 3 of R182 for a request accepted in SETUP alone. -/
def inSetup (k : State → State × Reply) (s : State) : State × Reply := if s.mode = .setup then k s else wrongMode s

/-- A refusal with an empty body that changes nothing (R183). -/
def refuse (st : Status) (s : State) : State × Reply := (s, ⟨st, .empty⟩)

/-- While RSTn is held low the recorder takes no event (R131). -/
def awake (f : State → State) (s : State) : State := if s.inReset then s else f s

end Sys2Proof.Machine
end

