-- ==== Sys2Proof/Machine/Notes.lean ====
section
/-! DEFINITION. The notification unit (chapter 10): configuring, sending and acknowledging a class, credit, the
acknowledge timer, and what a link break returns to pending. Occurrences stand in `Machine/Ops.lean`. -/

namespace Sys2Proof.Machine

/-! ### Configuring (R195, R196) -/

/-- A class after a SET_NOTE (R195, R196). -/
def NoteClass.configure (c : NoteClass) (enable : Bool) (priority timeout : Nat) : NoteClass :=
  let c' := { c with enable, priority, timeout }
  if c.enable && !enable then { c' with pendingDetail := none, timer := none, resendDue := false } else c'

/-- SET_NOTE carried out (R195). -/
def setNoteRequest (p : List Byte) : State → State × Reply :=
  withFields (decodeSetNote p) fun f s =>
    let c := s.notes.classes[f.1].configure f.2.1 f.2.2.1 f.2.2.2
    (s.setClass f.1 c, ⟨.ok, .note c.enable c.priority c.timeout c.state c.noteNumber c.resendDue⟩)

/-! ### Sending (R197 to R199) -/

/-- The acknowledge timer as a send starts it, from the timeout now stored (R198, R199). -/
def NoteClass.startTimer (c : NoteClass) : Option Nat := if c.timeout = 0 then none else some (1000 * c.timeout)

/-- The class chosen at R169's second case: highest priority, then lowest number, among those with a notification to
send. -/
def chooseNote (s : State) : Option ClassNo :=
  (List.finRange 6).foldl
    (fun best c =>
      if s.notes.classes[c].sendable then
        match best with
        | some b => if s.notes.classes[b].priority < s.notes.classes[c].priority then some c else best
        | none => some c
      else best) none

/-- The NOTIFY frame a chosen class builds, and the class after the choice: a resend where one is due, a new
notification where it is PENDING (R198, R199). -/
def NoteClass.send (n : ClassNo) (c : NoteClass) : Option (Frame × NoteClass) :=
  if c.resendDue then
    c.outstanding.map fun d => (.notify n c.noteNumber true d, { c with resendDue := false, timer := c.startTimer })
  else
    c.pendingDetail.map fun d =>
      let number := (c.noteNumber + 1) % 256
      (.notify n number false d,
        { c with noteNumber := number, outstanding := some d, pendingDetail := none, timer := c.startTimer })

/-- The acknowledge timer of a class has run out (R198). -/
def acknowledgeExpiry (n : ClassNo) (s : State) : State :=
  let c := s.notes.classes[n]
  if c.timer = some 0 then s.setClass n { c with timer := none, resendDue := true } else s

/-! ### Acknowledgment and credit (R200, R202) -/

/-- ACK_NOTE carried out (R200). -/
def ackNoteRequest (p : List Byte) : State → State × Reply :=
  withFields (decodeAckNote p) fun f s =>
    let c := s.notes.classes[f.1]
    if c.outstanding.isSome ∧ f.2 = c.noteNumber then
      let c' := { c with outstanding := none, timer := none, resendDue := false }
      (s.setClass f.1 c', ⟨.ok, .classState c'.state⟩)
    else (s, ⟨.staleNote, .stale c.state (if c.outstanding.isSome then some c.noteNumber else none)⟩)

/-- CREDIT carried out (R202). -/
def creditRequest (p : List Byte) : State → State × Reply :=
  withFields (decodeCredit p) fun n s =>
    let total := satAdd Config.creditCap s.notes.credit n
    (s.setCredit total, ⟨.ok, .credit total⟩)

/-! ### Link break (R204) -/

/-- A class at a link break (R204). -/
def NoteClass.atBreak (c : NoteClass) : NoteClass :=
  match c.outstanding with
  | none => c
  | some d =>
      if c.enable then
        { c with pendingDetail := mergeDetails (some d) c.pendingDetail, outstanding := none, timer := none,
                 resendDue := false }
      else { c with outstanding := none, timer := none, resendDue := false }

/-- The notification unit at a link break (R204). -/
def breakNotes (s : State) : State :=
  { s with notes := { classes := mapV NoteClass.atBreak s.notes.classes, credit := 0 } }

/-! ### Meanings -/

/-- SET_NOTE (R195, R196). -/
def execSetNote (s : State) : Host.Outcome State Fault Refusal := .next (awake (serve .setNote setNoteRequest) s)

/-- CREDIT (R202). -/
def execCredit (s : State) : Host.Outcome State Fault Refusal := .next (awake (serve .credit creditRequest) s)

/-- ACK_NOTE (R200). -/
def execAckNote (s : State) : Host.Outcome State Fault Refusal := .next (awake (serve .ackNote ackNoteRequest) s)

/-- ACKNOWLEDGE_TIMER_EXPIRY (R198). -/
def execAcknowledgeTimerExpiry (n : ClassNo) (s : State) : Host.Outcome State Fault Refusal :=
  .next (awake (acknowledgeExpiry n) s)

end Sys2Proof.Machine
end

