-- ==== Sys2Proof/Machine/Readout.lean ====
section
/-! DEFINITION. The cursor unit (chapter 7): opening and closing cursors, reading and moving, segment listings, streams
and the DATA frames they send. -/

namespace Sys2Proof.Machine

/-! ### Positions (R134) -/

/-- The place of a position among a spool's held records, counted from the oldest; at END, how many are held. -/
def Spool.indexOf (sp : Spool) (pos : Nat) : Nat := sp.held.findIdx fun r => r.seq == pos

/-- The position at a place: the record's sequence, or END (R134). -/
def Spool.positionAt (sp : Spool) (idx : Nat) : Nat := (sp.held[idx]?.map (·.seq)).getD sp.nextSeq

/-- A position as replies give it (R206). -/
def Spool.replyPosition (sp : Spool) (pos : Nat) : Position := { seq := pos, atEnd := pos == sp.nextSeq }

/-- A record of the spool has sequence `pos`. -/
def Spool.holds (sp : Spool) (pos : Nat) : Bool := sp.held.any fun r => r.seq == pos

/-! ### Opening and closing (R136 to R138) -/

/-- The position a start gives, or the status that refuses it (R136). -/
def startPosition (sp : Spool) (st : Start) : Except Status Nat :=
  match st with
  | .oldest => .ok (sp.positionAt 0)
  | .newest => .ok (sp.positionAt (sp.held.length - 1))
  | .atEnd => .ok sp.nextSeq
  | .seq n => if sp.holds n then .ok n else .error .noSuchRecord
  | .segment g =>
      match sp.held.find? fun r => r.seg == g with
      | some r => .ok r.seq
      | none => .error .noSuchSegment

/-- A stream ended by a request on its cursor makes its STREAM_END ready (R153). -/
def endStream (c : CursorNo) (reason : StreamEnd) (s : State) : State :=
  match s.cursors[c].state with
  | .streaming _ _ _ _ => pushFrame (.streamEnd c reason) s
  | _ => s

/-- OPEN_CURSOR carried out (R136, R137). -/
def openCursorRequest (p : List Byte) (s : State) : State × Reply :=
  withFields (decodeOpenCursor p) (fun f s =>
    let sp := s.spools[f.2.1]
    if sp.enabled = false then refuse .spoolDisabled s
    else if sp.erasing.isSome then refuse .spoolBusy s
    else
      match startPosition sp f.2.2 with
      | .error st => refuse st s
      | .ok pos =>
          ((endStream f.1 .closed s).setCursor f.1 { state := .positioned f.2.1 pos, inFlight := none },
            ⟨.ok, .opened (sp.replyPosition pos) sp.ends⟩)) s

/-- CLOSE_CURSOR carried out (R138). -/
def closeCursorRequest (p : List Byte) (s : State) : State × Reply :=
  withFields (decodeCursor p) (fun c s =>
    match s.cursors[c].state with
    | .closed => (s, ⟨.ok, .closed true⟩)
    | _ => ((endStream c .closed s).setCursor c { state := .closed, inFlight := none }, ⟨.ok, .closed false⟩)) s

/-! ### The checks of READ, SPACE, SKIP and STREAM (R139, R147) -/

/-- A request on a cursor (R139): `k` carries it out on a POSITIONED cursor; `lappedBody` is the body of a LAPPED reply
with the new position (R147). -/
def onCursor (c : CursorNo) (lappedBody : Position → Body) (k : SpoolNo → Nat → State → State × Reply) (s : State) :
    State × Reply :=
  let cu := s.cursors[c]
  let ready (i : SpoolNo) (go : State → State × Reply) : State × Reply :=
    if s.spools[i].enabled = false then refuse .spoolDisabled s
    else if s.spools[i].erasing.isSome then refuse .spoolBusy s
    else go s
  match cu.state with
  | .closed => refuse .noCursor s
  | .streaming i _ _ _ => ready i (refuse .cursorBusy)
  | .lapped i => ready i fun s =>
      let pos := s.spools[i].positionAt 0
      (s.setCursor c { cu with state := .positioned i pos }, ⟨.lapped, lappedBody (s.spools[i].replyPosition pos)⟩)
  | .positioned i pos => ready i (k i pos)

/-- A POSITIONED cursor moves; its in-flight mark is kept (R155). -/
def moveCursor (c : CursorNo) (i : SpoolNo) (pos : Nat) (s : State) : State :=
  s.setCursor c { s.cursors[c] with state := .positioned i pos }

/-! ### READ, SPACE, SKIP -/

/-- READ on a POSITIONED cursor (R140). -/
def readAt (c : CursorNo) (k : Nat) (i : SpoolNo) (pos : Nat) (s : State) : State × Reply :=
  let sp := s.spools[i]
  let idx := sp.indexOf pos
  let records := (sp.held.drop idx).take k
  let pos' := sp.positionAt (idx + records.length)
  if records.isEmpty then (s, ⟨.atEnd, .read false [] (some (sp.replyPosition pos))⟩)
  else (moveCursor c i pos' s, ⟨.ok, .read false records (some (sp.replyPosition pos'))⟩)

/-- READ carried out (R139, R140). -/
def readRequest (p : List Byte) (s : State) : State × Reply :=
  withFields (decodeRead p) (fun f => onCursor f.1 (fun pos => .read false [] (some pos)) (readAt f.1 f.2)) s

/-- SPACE on a POSITIONED cursor (R142). -/
def spaceAt (c : CursorNo) (n : Int) (i : SpoolNo) (pos : Nat) (s : State) : State × Reply :=
  let sp := s.spools[i]
  let idx := sp.indexOf pos
  let steps := if 0 < n then min n.natAbs (sp.held.length - idx) else min n.natAbs idx
  let pos' := sp.positionAt (if 0 < n then idx + steps else idx - steps)
  let st : Status := if steps = n.natAbs then .ok else if 0 < n then .atEnd else .atOldest
  (moveCursor c i pos' s, ⟨st, .space steps (sp.replyPosition pos')⟩)

/-- SPACE carried out (R139, R142). -/
def spaceRequest (p : List Byte) (s : State) : State × Reply :=
  withFields (decodeMove p) (fun f => onCursor f.1 .position (spaceAt f.1 f.2)) s

/-- The segment number of the record at a position, or of the newest held record at END (R143). -/
def Spool.segmentAt (sp : Spool) (idx : Nat) : Option Nat := (sp.held[idx]? <|> sp.held.getLast?).map (·.seg)

/-- Where a SKIP goes: status, segment, position (R143). -/
def Spool.skipTarget (sp : Spool) (n : Int) (idx : Nat) : Status × Option Nat × Nat :=
  match sp.segmentAt idx, sp.held.head?, sp.held.getLast? with
  | some g, some oldest, some newest =>
      let target : Int := (g : Int) + n
      match sp.held.find? fun r => (r.seg : Int) == target with
      | some r => (.ok, some r.seg, r.seq)
      | none =>
          if (newest.seg : Int) < target then (.atEnd, none, sp.nextSeq) else (.atOldest, some oldest.seg, oldest.seq)
  | _, _, _ => (if 0 < n then .atEnd else .atOldest, none, sp.nextSeq)

/-- SKIP on a POSITIONED cursor (R143). -/
def skipAt (c : CursorNo) (n : Int) (i : SpoolNo) (pos : Nat) (s : State) : State × Reply :=
  let sp := s.spools[i]
  let t := sp.skipTarget n (sp.indexOf pos)
  (moveCursor c i t.2.2 s, ⟨t.1, .skip t.2.1 (sp.replyPosition t.2.2)⟩)

/-- SKIP carried out (R139, R143). -/
def skipRequest (p : List Byte) (s : State) : State × Reply :=
  withFields (decodeMove p) (fun f => onCursor f.1 .position (skipAt f.1 f.2)) s

/-! ### LIST_SEGMENTS (R144) -/

/-- The more indication of a LIST_SEGMENTS on an ERASING spool: clear where no held segment is numbered `start` or above,
and otherwise a free value. DESIGN CHOICE (log entry 14), safe: R144 and R45 do not give it. -/
def Spool.moreWhileErasing (sp : Spool) (start : Nat) : Bool :=
  match (sp.segNumbers.filter fun n => start ≤ n).length with
  | 0 => false
  | n + 1 => Config.freeErasingMore (n + 1)

/-- LIST_SEGMENTS carried out (R144, R145). -/
def listSegmentsRequest (p : List Byte) (s : State) : State × Reply :=
  withFields (decodeListSegments p) (fun f s =>
    let sp := s.spools[f.1]
    if sp.enabled = false then refuse .spoolDisabled s
    else if sp.erasing.isSome then (s, ⟨.ok, .segments true [] (sp.moreWhileErasing f.2.1)⟩)
    else
      let openId := s.burst.phase.open?.bind fun b => if b.spool = f.1 then some b.id else none
      let entries := sp.segEntries openId f.2.1
      (s, ⟨.ok, .segments false (entries.take f.2.2) (decide (f.2.2 < entries.length))⟩)) s

/-! ### Streams (R149 to R154) -/

/-- STREAM on a POSITIONED cursor (R149). -/
def streamAt (c : CursorNo) (count : Nat) (follow : Bool) (i : SpoolNo) (pos : Nat) (s : State) : State × Reply :=
  (s.setCursor c { s.cursors[c] with state := .streaming i pos (if count = 0 then none else some count) follow },
    ⟨.ok, .position (s.spools[i].replyPosition pos)⟩)

/-- STREAM carried out (R139, R149). -/
def streamRequest (p : List Byte) (s : State) : State × Reply :=
  withFields (decodeStream p) (fun f => onCursor f.1 .position (streamAt f.1 f.2.1 f.2.2)) s

/-- STOP_STREAM carried out (R154). -/
def stopStreamRequest (p : List Byte) (s : State) : State × Reply :=
  withFields (decodeCursor p) (fun c s =>
    match s.cursors[c].state with
    | .closed => refuse .noCursor s
    | .streaming i pos _ _ =>
        (moveCursor c i pos (pushFrame (.streamEnd c .stopped) s), ⟨.ok, .stopped (some (s.spools[i].replyPosition pos))⟩)
    | _ => (s, ⟨.ok, .stopped none⟩)) s

/-- A cursor is eligible for the arbiter's choice of a stream frame (R150). A choice is made only while the path is
FREE, when no frame of any cursor is in transmission. -/
def eligible (s : State) (c : CursorNo) : Bool :=
  match s.cursors[c].state with
  | .streaming i pos _ follow => s.spools[i].holds pos || (pos == s.spools[i].nextSeq && !follow)
  | _ => false

/-- The DATA frame a chosen stream builds, and the cursor after it (R151, R152). -/
def buildFrame (c : CursorNo) (s : State) : Option (Frame × Cursor) :=
  let cu := s.cursors[c]
  match cu.state with
  | .streaming i pos remaining follow =>
      let sp := s.spools[i]
      let idx := sp.indexOf pos
      let records := (sp.held.drop idx).take (min Config.recordsPerFrame (remaining.getD Config.recordsPerFrame))
      let pos' := sp.positionAt (idx + records.length)
      let left := remaining.map (· - records.length)
      let ended : Option StreamEnd :=
        if left = some 0 then some .count
        else if pos' = sp.nextSeq ∧ follow = false then some .atEnd
        else none
      let inFlight := (records.head?.map (·.seq)) <|> cu.inFlight
      let state : CursorState := if ended.isSome then .positioned i pos' else .streaming i pos' left follow
      some (.data c ended records, { state, inFlight })
  | _ => none

/-! ### Meanings -/

/-- OPEN_CURSOR (R136, R137). -/
def execOpenCursor (s : State) : Host.Outcome State Fault Refusal :=
  .next (awake (serve .openCursor openCursorRequest) s)

/-- CLOSE_CURSOR (R138). -/
def execCloseCursor (s : State) : Host.Outcome State Fault Refusal :=
  .next (awake (serve .closeCursor closeCursorRequest) s)

/-- READ (R139 to R141). -/
def execRead (s : State) : Host.Outcome State Fault Refusal := .next (awake (serve .read readRequest) s)

/-- SPACE (R142). -/
def execSpace (s : State) : Host.Outcome State Fault Refusal := .next (awake (serve .space spaceRequest) s)

/-- SKIP (R143). -/
def execSkip (s : State) : Host.Outcome State Fault Refusal := .next (awake (serve .skip skipRequest) s)

/-- STREAM (R149). -/
def execStream (s : State) : Host.Outcome State Fault Refusal := .next (awake (serve .stream streamRequest) s)

/-- STOP_STREAM (R154). -/
def execStopStream (s : State) : Host.Outcome State Fault Refusal :=
  .next (awake (serve .stopStream stopStreamRequest) s)

/-- LIST_SEGMENTS (R144, R145). -/
def execListSegments (s : State) : Host.Outcome State Fault Refusal :=
  .next (awake (serve .listSegments listSegmentsRequest) s)

end Sys2Proof.Machine
end

