-- ==== Sys2Proof/Machine/LinkUnit.lean ====
section
/-! DEFINITION. The link controller (chapters 8 and 9): the receiver, the intake, refusals, the arbiter's choice, the
completion of a transmission, and the link break. -/

namespace Sys2Proof.Machine

/-! ### The receiver (R161 to R165) -/

/-- The receiver takes a state. -/
def State.setRx (s : State) (rx : Receiver) : State := s.setLink { s.link with rx }

/-- The start byte of a frame (R160). -/
def startByte : Byte := 0xC3

/-- A length byte the receiver accepts: 2 to 250 (R161, R162). -/
def acceptsLength (b : Byte) : Bool := 2 ≤ b.toNat && b.toNat ≤ 250

/-- A character that neither completes a frame nor is a fault (R161). Each byte of a frame restarts the gap timer; one
that comes with the timer run out, before GAP_TIMEOUT is taken, is R164's byte first (log entry 8).
One that would complete a frame or be a length fault is another event, and changes nothing here (log entry 2). -/
def Receiver.take (rx : Receiver) (b : Byte) : Receiver :=
  match rx with
  | .hunt => if b = startByte then .length 0 else .hunt
  | .length gap => if acceptsLength b then .body b.toNat [] (crcByte crcInit b) 0 else .length gap
  | .body len got crc _ =>
      if got.length + 1 = len then .check (got ++ [b]) (crcByte crc b) none 0
      else .body len (got ++ [b]) (crcByte crc b) 0
  | .check got crc none _ => .check got crc (some b) 0
  | .check got crc (some a) gap => .check got crc (some a) gap
  | .low => .low

/-- A frame is in progress: the receiver is in LENGTH, BODY or CHECK. -/
def Receiver.inFrame : Receiver → Bool
  | .hunt | .low => false
  | _ => true

/-- The gap timer while it runs: the µs since the last byte (R164). -/
def Receiver.gap : Receiver → Option Nat
  | .length g => some g
  | .body _ _ _ g => some g
  | .check _ _ _ g => some g
  | _ => none

/-- A length fault (R162). -/
def lengthFault (b : Byte) (s : State) : State :=
  match s.link.rx with
  | .length _ => if acceptsLength b then s else countFault lengthErrors (s.setRx .hunt)
  | _ => s

/-- The gap timer has run out (R164). -/
def Receiver.gapOver (rx : Receiver) : Bool := rx.gap.any fun g => decide (Config.gapLength ≤ g)

/-- The expiry of the gap timer is taken (R164). -/
def gapExpiry (s : State) : State :=
  if s.link.rx.gapOver then countFault gapTimeouts (s.setRx .hunt) else s

/-- A character error (R165). -/
def characterError (stillLow : Bool) (s : State) : State :=
  let next : Receiver := if stillLow then .low else .hunt
  match s.link.rx with
  | .low => s
  | .hunt => s.setRx next
  | _ => countFault characterErrors (s.setRx next)

/-- The receive line returns to the high level (R165, R171). -/
def lineHigh (s : State) : State :=
  match s.link.rx with
  | .low => s.setLink { s.link with rx := .hunt, breakTaken := false }
  | _ => s

/-! ### Arrival (R163, R166, R178, R179) -/

/-- A refusal made at arrival (R179). -/
def makeRefusal (tag : Byte) (code : Option Byte) (st : Status) (s : State) : State :=
  if s.link.refusalSlots < Config.refusalSlots then
    pushFrame (.refusal tag code st) (s.setLink { s.link with refusalSlots := s.link.refusalSlots + 1 })
  else countFault refusalsDropped s

/-- The intake takes a request (R178). -/
def intake (tag : Byte) (payload : List Byte) (s : State) : State :=
  if Config.outstandingPlaces ≤ s.link.outstanding.length then makeRefusal tag payload.head? .busy s
  else if tag ∈ s.link.tags then makeRefusal tag payload.head? .tagInUse s
  else
    s.setLink { s.link with
      intake := s.link.intake ++ [{ tag, payload }],
      outstanding := s.link.outstanding ++ [{ tag, code := payload.head?, stage := .queued }] }

/-- The kind byte of a REQUEST frame (R206). -/
def requestKind : Byte := 0x01

/-- A good frame is handed on by its kind (R166); a body holds at least kind and tag (R160). -/
def handOn (body : List Byte) (s : State) : State :=
  match body with
  | kind :: tag :: payload =>
      if kind = requestKind then intake tag payload s else makeRefusal tag none .badRequest s
  | _ => s

/-- The received check, high byte first (R160). -/
def receivedCheck (high low : Byte) : BitVec 16 := high ++ low

/-- The second check byte is received (R163). -/
def frameArrival (low : Byte) (s : State) : State :=
  match s.link.rx with
  | .check got crc (some high) _ =>
      if receivedCheck high low = crc then handOn got (s.setRx .hunt) else countFault checkErrors (s.setRx .hunt)
  | _ => s

/-! ### The transmit path (R169, R170) -/

/-- What a frame has left to send: its length times ten bit times (R159), in units of which each µs takes as many as
the link speed has baud. -/
def Frame.airtime (f : Frame) : Nat := f.size * 10 * 1000000

/-- The path becomes BUSY with a frame (R169). -/
def beginFrame (f : Frame) (s : State) : State :=
  s.setLink { s.link with path := some { frame := f, left := f.airtime } }

/-- The cursors in the order the arbiter looks at them: from the one after the last served, wrapping (R169). -/
def roundRobin (last : CursorNo) : List CursorNo := (List.finRange 4).map fun k => last + 1 + k

/-- The stream chosen at R169's third case. -/
def chooseStream (s : State) : Option CursorNo := (roundRobin s.link.lastServed).find? (eligible s)

/-- A chosen notification (R169 case 2, R198, R199). -/
def sendNote (c : ClassNo) (s : State) : State :=
  match s.notes.classes[c].send c with
  | some fc => beginFrame fc.1 ((s.setClass c fc.2).setCredit (s.notes.credit - 1))
  | none => s

/-- A chosen stream (R169 case 3, R151, R152). -/
def sendStream (c : CursorNo) (s : State) : State :=
  match buildFrame c s with
  | some fc =>
      let s1 := s.setCursor c fc.2
      beginFrame fc.1 (s1.setLink { s1.link with lastServed := c })
  | none => s

/-- The notification a choice would send: only with credit (R169 case 2, R197). -/
def noteToSend (s : State) : Option ClassNo := if s.notes.credit = 0 then none else chooseNote s

/-- The arbiter's choice (R169). -/
def arbiterChoice (s : State) : State :=
  match s.link.path with
  | some _ => s
  | none =>
      match s.link.replyQueue with
      | f :: rest => beginFrame f (s.setLink { s.link with replyQueue := rest })
      | [] =>
          match noteToSend s with
          | some c => sendNote c s
          | none =>
              match chooseStream s with
              | some c => sendStream c s
              | none => s

/-- A frame can be sent (R169). -/
def canSend (s : State) : Bool :=
  s.link.path.isNone && (!s.link.replyQueue.isEmpty || (noteToSend s).isSome || (chooseStream s).isSome)

/-- What completion tells the owner of a frame (R170). -/
def tellOwner (f : Frame) (s : State) : State :=
  match f with
  | .reply tag _ _ true => s.setLink { s.link with outstanding := s.link.outstanding.filter fun e => e.tag != tag }
  | .refusal _ _ _ => s.setLink { s.link with refusalSlots := s.link.refusalSlots - 1 }
  | .data c _ _ => s.setCursor c { s.cursors[c] with inFlight := none }
  | .reply _ _ _ false => s
  | .streamEnd _ _ => s
  | .notify _ _ _ _ => s

/-- The last byte's stop bit of the frame in transmission has been sent (R170), not before its ten bit times a byte have
passed (R159). -/
def completeTransmission (s : State) : State :=
  match s.link.path with
  | some t => if t.left = 0 then tellOwner t.frame (s.setLink { s.link with path := none }) else s
  | none => s

/-! ### The link break (R171 to R173) -/

/-- The link controller's own part of a break (R171, R172). -/
def breakLink (s : State) : State :=
  s.setLink { s.link with
    rx := .low, breakTaken := true, intake := [], outstanding := [], replyQueue := [], refusalSlots := 0, path := none }

/-- A POSITIONED cursor on `i` at `pos` at a break: rewound to its in-flight mark, or lapped where the record it names
has left the spool (R157). -/
def Cursor.rewind (holds : Nat → Bool) (i : SpoolNo) (pos : Nat) (mark : Option Nat) : Cursor :=
  match mark with
  | none => { state := .positioned i pos, inFlight := none }
  | some m => { state := if holds m then .positioned i m else .lapped i, inFlight := none }

/-- A cursor at a link break (R157). -/
def Cursor.atBreak (spools : Vector Spool 4) (c : Cursor) : Cursor :=
  match c.state with
  | .positioned i pos => Cursor.rewind spools[i].holds i pos c.inFlight
  | .streaming i pos _ _ => Cursor.rewind spools[i].holds i pos c.inFlight
  | _ => c

/-- The cursor unit at a link break (R157). -/
def breakCursors (s : State) : State := s.setCursors (mapV (Cursor.atBreak s.spools) s.cursors)

/-- A link break (R171 to R173): one break to a low period. That RSTn ends the period is the model's choice (log entry
15). -/
def linkBreak (s : State) : State :=
  if s.link.breakTaken then s else breakNotes (breakCursors (breakLink (countFault breaks s)))

/-! ### Meanings -/

/-- CHARACTER_RECEIVED (R161). -/
def execCharacterReceived (b : Byte) (s : State) : Host.Outcome State Fault Refusal :=
  .next (awake (fun s => s.setRx (s.link.rx.take b)) s)

/-- FRAME_ARRIVAL (R163). -/
def execFrameArrival (check : Byte) (s : State) : Host.Outcome State Fault Refusal :=
  .next (awake (frameArrival check) s)

/-- LENGTH_FAULT (R162). -/
def execLengthFault (b : Byte) (s : State) : Host.Outcome State Fault Refusal := .next (awake (lengthFault b) s)

/-- CHARACTER_ERROR (R165). -/
def execCharacterError (stillLow : Bool) (s : State) : Host.Outcome State Fault Refusal :=
  .next (awake (characterError stillLow) s)

/-- GAP_TIMEOUT (R164). -/
def execGapTimeout (s : State) : Host.Outcome State Fault Refusal := .next (awake gapExpiry s)

/-- RECEIVE_LINE_RETURNS_HIGH (R165). -/
def execReceiveLineReturnsHigh (s : State) : Host.Outcome State Fault Refusal := .next (awake lineHigh s)

/-- LINK_BREAK (R171 to R173). -/
def execLinkBreak (s : State) : Host.Outcome State Fault Refusal := .next (awake linkBreak s)

/-- ARBITER_CHOICE (R169). -/
def execArbiterChoice (s : State) : Host.Outcome State Fault Refusal := .next (awake arbiterChoice s)

/-- TRANSMISSION_COMPLETION (R159, R170; log entry 7). -/
def execTransmissionCompletion (s : State) : Host.Outcome State Fault Refusal := .next (awake completeTransmission s)

end Sys2Proof.Machine
end

