-- ==== Sys2Proof/Machine/Clock.lean ====
section
/-! DEFINITION. The passing of time (R68) and what the recorder does on its own when no command waits (log entry 3). -/

namespace Sys2Proof.Machine

/-! ### Elapsed time (R68) -/

/-- A running timer after `n` µs; it stands at 0 once it has run out, until its expiry is taken. -/
def tickTimer (n : Nat) : Option Nat → Option Nat := Option.map (· - n)

def LineState.elapse (n : Nat) : LineState → LineState
  | .settling t0 t => .settling t0 (t - n)
  | .lockout t => .lockout (t - n)
  | .suppressed t => .suppressed (t - n)
  | .idle => .idle
  | .quiet => .quiet

def Line.elapse (n : Nat) (l : Line) : Line := { l with state := l.state.elapse n, window := tickTimer n l.window }

def Spool.elapse (n : Nat) (sp : Spool) : Spool := { sp with erasing := tickTimer n sp.erasing }

def BurstPhase.elapse (n : Nat) : BurstPhase → BurstPhase
  | .idle => .idle
  | .isOpen b => .isOpen { b with timer := b.timer - n }
  | .cooldown id sp g t => .cooldown id sp g (t - n)

def NoteClass.elapse (n : Nat) (c : NoteClass) : NoteClass := { c with timer := tickTimer n c.timer }

def Receiver.elapse (n : Nat) : Receiver → Receiver
  | .hunt => .hunt
  | .length g => .length (g + n)
  | .body len got crc g => .body len got crc (g + n)
  | .check got crc f g => .check got crc f (g + n)
  | .low => .low

/-- What is left of a frame in transmission after `n` µs (R159). -/
def Transmission.elapse (speed : LinkSpeed) (n : Nat) (t : Transmission) : Transmission :=
  { t with left := t.left - n * speed.baud }

/-- `n` µs pass: the time base counts up to 2^48 - 1 and stays there, every running timer runs (R68), and the
frame in transmission goes on (R159). -/
def elapse (n : Nat) (s : State) : State :=
  { s with
    time := min (s.time + n) max48,
    spools := mapV (Spool.elapse n) s.spools,
    lines := mapV (Line.elapse n) s.lines,
    burst := { s.burst with phase := s.burst.phase.elapse n },
    link := { s.link with rx := s.link.rx.elapse n, path := s.link.path.map (Transmission.elapse s.link.speed n) },
    notes := { s.notes with classes := mapV (NoteClass.elapse n) s.notes.classes } }

/-! ### The recorder's own events (log entry 3) -/

/-- The timer expiries of a line that are due. -/
def Line.due (l : LineNo) (ln : Line) : Option Instr :=
  match ln.state with
  | .settling _ 0 => some (.settlingTimerExpiry l)
  | .lockout 0 => some (.lockoutExpiry l)
  | .suppressed 0 => some (.releaseTimerExpiry l)
  | _ => if ln.window = some 0 then some (.chatterWindowExpiry l) else none

/-- The expiry of the burst controller that is due. -/
def BurstPhase.due : BurstPhase → Option Instr
  | .isOpen b => if b.timer = 0 then some .deadlineExpiry else none
  | .cooldown _ _ _ t => if t = 0 then some .cooldownExpiry else none
  | .idle => none

/-- The gap timeout that no byte can forestall any more: a byte whose start bit came within the timer's length is
complete one character later (R164, log entry 8). -/
def Link.gapDue (l : Link) : Option Instr :=
  match l.rx.gap with
  | some g => if Config.gapLength + l.speed.characterTime ≤ g then some .gapTimeout else none
  | none => none

/-- The recorder's next event of its own where no command waits: the taking of the oldest request, an arbiter's choice
that can be made, then whatever timer, erase or transmission has run out; `none` where time passes. -/
def ownEvent (s : State) : Option Instr :=
  (s.link.intake.head?.map Request.row)
    <|> (if canSend s then some .arbiterChoice else none)
    <|> (List.finRange 32).findSome? (fun l => s.lines[l].due l)
    <|> s.burst.phase.due
    <|> (List.finRange 6).findSome? (fun c =>
          if s.notes.classes[c].timer = some 0 then some (.acknowledgeTimerExpiry c) else none)
    <|> (List.finRange 4).findSome? (fun i => if s.spools[i].erasing = some 0 then some (.eraseCompletion i) else none)
    <|> s.link.gapDue
    <|> (match s.link.path with
         | some t => if t.left = 0 then some .transmissionCompletion else none
         | none => none)

end Sys2Proof.Machine
end

