-- ==== Sys2Proof/Machine/Bursts.lean ====
section
/-! DEFINITION. The burst controller (chapter 5): the lookback ring, the dispositions of a trip, the opening run, the
closing MARK, early ends, and the expiries of the window timer and the cooldown timer. -/

namespace Sys2Proof.Machine

/-! ### The lookback ring (R97, R102) -/

/-- An entry joins the newest end of the ring, the oldest going where it would exceed 16 (R97). -/
def pushRing (e : RingEntry) (ring : List RingEntry) : List RingEntry :=
  let ring' := ring ++ [e]
  ring'.drop (ring'.length - Config.ringSize)

/-- The entries an opening copies: timestamp at least the trip time less TL (R102). -/
def selectEntries (ring : List RingEntry) (tripTime tl : Nat) : List RingEntry :=
  ring.filter fun e => decide (tripTime ≤ e.timestamp + 1000 * tl)

/-- The order of R102: by timestamp, then by line. -/
def RingEntry.le (a b : RingEntry) : Bool :=
  decide (a.timestamp < b.timestamp) || (decide (a.timestamp = b.timestamp) && decide (a.line ≤ b.line))

/-- An entry put before the first that does not precede it. -/
def insertEntry (e : RingEntry) : List RingEntry → List RingEntry
  | [] => [e]
  | x :: xs => if e.le x then e :: x :: xs else x :: insertEntry e xs

/-- Selected entries in the order of R102; entries equal in timestamp and line keep their order of arrival. -/
def orderEntries (es : List RingEntry) : List RingEntry := es.foldr insertEntry []

/-- The lookback EDGE record of an entry (R102). -/
def RingEntry.draft (e : RingEntry) : Draft :=
  { body := .edge e.line e.level, timestamp := e.timestamp, lookback := true, late := e.late,
    afterChatter := e.afterChatter }

/-! ### A trip of a BURST group (R99 to R106) -/

/-- What the group unit hands to the burst controller with a trip (R79); the record waits for its disposition. -/
structure Trip where
  group : GroupNo
  cfg : GroupConfig
  time : Nat
  record : Disposition → Option Nat → Draft

/-- The room an opening needs (R100): m + 2 + l + 1. -/
def openingNeed (sp : Spool) : Nat := sp.current.isSome.toNat + 2 + sp.tally.isSome.toNat + 1

/-- The opening run (R22), in its order; answers the sequence of the TRIP record if it was placed. -/
def openingRun (i : SpoolNo) (burstOpen trip : Draft) (lookback : List Draft) (s : State) : State × Option Nat :=
  let sp := s.spools[i]
  let aside := setAside i s
  let closed :=
    if sp.current.isSome then placeDirect i { body := .mark .burstStart 0 none, timestamp := s.time } aside else aside
  let flagged := closed.setSpool i { closed.spools[i] with burstSeg := true }
  let opened := placeDirect i burstOpen flagged
  let settled :=
    match sp.tally with
    | some ty =>
        let st := placeDirect i (lossDraft s.time ty) opened
        st.setSpool i { st.spools[i] with tally := none }
    | none => opened
  let tripped := append i trip settled
  (lookback.foldl (fun acc d => appendTo i d acc) tripped.1, tripped.2)

/-- The burst id after `id`, from 65535 to 1 (R101). -/
def nextBurstId (id : Nat) : Nat := if id = max16 then 1 else id + 1

/-- A burst opens on the group's route (R101). -/
def openBurst (t : Trip) (s : State) : State × Option Nat :=
  let i := t.cfg.route
  let id := s.burst.nextId
  let d := deadlineOf (t.time + 1000 * min t.cfg.w s.burst.settings.m)
  let entries := orderEntries (selectEntries s.burst.ring t.time s.burst.settings.tl)
  let run := openingRun i { body := .burstOpen id t.group d entries.length, timestamp := s.time }
    (t.record .opened (some id)) (entries.map RingEntry.draft) s
  ({ run.1 with
      burst := { run.1.burst with
        phase := .isOpen { id, spool := i, group := t.group, t0 := t.time, deadline := d, timer := d - s.time },
        nextId := nextBurstId id, ring := [] } },
    run.2)

/-- A burst tries to open on the group's route: OPENED or REFUSED (R100, R103). -/
def tryOpen (t : Trip) (s : State) : State × Option Nat :=
  let sp := s.spools[t.cfg.route]
  if sp.erasing.isNone && sp.room (openingNeed sp) true then openBurst t s
  else append t.cfg.route (t.record .refused none) s

/-- The deadline after an extension (R104): the candidate where it is later, no later than the cap, never earlier. -/
def extendedDeadline (b : OpenBurst) (set : BurstSettings) (tripTime : Nat) : Nat :=
  let candidate := tripTime + 1000 * set.e
  if b.deadline < candidate then max b.deadline (deadlineOf (min candidate (b.t0 + 1000 * set.m))) else b.deadline

/-- A trip that finds the burst OPEN extends it (R104, R105). -/
def extendBurst (b : OpenBurst) (t : Trip) (s : State) : State × Option Nat :=
  let d := extendedDeadline b s.burst.settings t.time
  append t.cfg.route (t.record .extended (some b.id))
    (s.setPhase (.isOpen { b with deadline := d, timer := b.timer + (d - b.deadline) }))

/-- A trip of a BURST group, decided by the burst state it finds (R99, R106). -/
def burstTrip (t : Trip) (s : State) : State × Option Nat :=
  match s.burst.phase with
  | .idle => tryOpen t s
  | .isOpen b => extendBurst b t s
  | .cooldown _ _ _ _ =>
      if s.burst.settings.p ≤ t.cfg.priority then tryOpen t (s.setPhase .idle)
      else append t.cfg.route (t.record .suppressed none) s

/-! ### The end of a burst (R109 to R115) -/

/-- The store's answer to the pin the burst controller asks for (R37). -/
def Spool.pinForBurst (sp : Spool) (seg : Nat) : Spool :=
  if seg ∈ sp.pins ∨ Config.pinTableSize ≤ sp.pins.length then sp else { sp with pins := insertPin seg sp.pins }

/-- The burst is closed with a MARK in its reserved slot, a pin is asked for if `askPin`, and BURST_END is raised
(R109, R111, R112, R113). -/
def closeBurst (reason : MarkReason) (askPin : Bool) (b : OpenBurst) (s : State) : State :=
  let sp := s.spools[b.spool]
  let mark : Draft := { body := .mark reason 0 (some b.id), timestamp := s.time }
  let r := { sp with reservation := false }.newRecord mark
  let filled := sp.fill mark
  let kept := if askPin then filled.pinForBurst r.seg else filled
  raise burstEndClass
    (.burstEnd 1 b.id b.spool r.seg ((r.draft.body.markInfo.map (·.1)).getD 0) (kept.pins.contains r.seg))
    (s.setSpool b.spool kept)

/-- The burst controller at HOLD and at DISARM (R111, R112). -/
def endBurstEarly (reason : MarkReason) (s : State) : State :=
  let closed := match s.burst.phase with
    | .isOpen b => closeBurst reason false b s
    | _ => s
  (closed.setPhase .idle).setRing []

/-- The burst controller at soft RESET (R114): an open burst is abandoned without a MARK. -/
def abandonBurst (s : State) : State :=
  let dropped := match s.burst.phase with
    | .isOpen b => s.setSpool b.spool s.spools[b.spool].abandonBurst
    | _ => s
  (dropped.setPhase .idle).setRing []

/-- The burst controller at the start of an erase (R41, R115): a burst open on the erased spool ends without MARK,
notification or cooldown. -/
def endBurstForErase (i : SpoolNo) (s : State) : State :=
  match s.burst.phase with
  | .isOpen b =>
      if b.spool = i then
        (s.setSpool i { s.spools[i] with reservation := false, burstSeg := false }).setPhase .idle
      else s
  | _ => s

/-- The deadline (R109): the window timer has run out. -/
def deadline (s : State) : State :=
  match s.burst.phase with
  | .isOpen b =>
      if b.timer = 0 then
        let closed := closeBurst .burstEnd s.groups[b.group].cfg.pinOnBurst b s
        closed.setPhase
          (if s.burst.settings.h = 0 then .idle else .cooldown b.id b.spool b.group (1000 * s.burst.settings.h))
      else s
  | _ => s

/-- The cooldown timer has run out (R107). -/
def cooldownEnd (s : State) : State :=
  match s.burst.phase with
  | .cooldown _ _ _ timer => if timer = 0 then s.setPhase .idle else s
  | _ => s

/-- SET_BURST carried out (R94). -/
def setBurstRequest (p : List Byte) (s : State) : State × Reply :=
  withFields (decodeSetBurst p) (fun set => inSetup fun s =>
    ({ s with burst := { s.burst with settings := set } }, ⟨.ok, .empty⟩)) s

/-- SET_BURST (R94). -/
def execSetBurst (s : State) : Host.Outcome State Fault Refusal := .next (awake (serve .setBurst setBurstRequest) s)

/-- DEADLINE_EXPIRY (R109). -/
def execDeadlineExpiry (s : State) : Host.Outcome State Fault Refusal := .next (awake (recording deadline) s)

/-- COOLDOWN_EXPIRY (R107). -/
def execCooldownExpiry (s : State) : Host.Outcome State Fault Refusal := .next (awake cooldownEnd s)

end Sys2Proof.Machine
end

