-- ==== Sys2Proof/Machine/Groups.lean ====
section
/-! DEFINITION. The watch group unit (chapter 4): evaluation on a qualified change, trips, standing states at ARM and
RESUME, SET_GROUP and SET_REFERENCE. -/

namespace Sys2Proof.Machine

/-- A qualified change as the group unit sees it (R76): the line, the change's timestamp and flags. -/
structure Change where
  line : LineNo
  time : Nat
  late : Bool
  afterChatter : Bool
  deriving DecidableEq, Repr

/-- A record produced by a qualified change: the change's timestamp and flags (R1, R2). -/
def Change.draft (c : Change) (body : RecordBody) : Draft :=
  { body, timestamp := c.time, late := c.late, afterChatter := c.afterChatter }

/-- A trip (R77 to R80): state, trip time and trip count, the TRIP record by the group's action, the TRIP class. -/
def tripGroup (g : GroupNo) (c : Change) (s : State) : State :=
  let gr := s.groups[g]
  let count := satAdd max16 gr.tripCount 1
  let levels := memberLevels s.lines gr.cfg
  let record : Disposition → Option Nat → Draft := fun d id => c.draft (.trip g c.line levels count d id)
  let s1 := s.setGroup g { gr with state := .tripped c.time, tripCount := count }
  let done := match gr.cfg.action with
    | .log => append gr.cfg.route (record .none none) s1
    | .burst => burstTrip { group := g, cfg := gr.cfg, time := c.time, record } s1
  raise tripClass (.trip (single g) 1 (done.2.map fun q => (gr.cfg.route, q))) done.1

/-- The evaluation of one enabled group having the changed line as a member (R76). -/
def evaluateGroup (c : Change) (g : GroupNo) (s : State) : State :=
  let gr := s.groups[g]
  if gr.cfg.enabled && gr.cfg.members.getLsbD c.line.val then
    let levels := memberLevels s.lines gr.cfg
    let ok := conforms s.lines gr.cfg
    match gr.state with
    | .off => s
    | .conforming => if ok then s else tripGroup g c s
    | .tripped t =>
        if ok then
          appendTo gr.cfg.route (c.draft (.restore g c.line levels (some (c.time - t))))
            (s.setGroup g { gr with state := .conforming })
        else appendTo gr.cfg.route (c.draft (.change g c.line levels)) s
    | .blocked =>
        if ok then
          appendTo gr.cfg.route (c.draft (.restore g c.line levels none)) (s.setGroup g { gr with state := .conforming })
        else s
  else s

/-- The evaluations of a qualified change, in ascending group number (R76). -/
def evaluateGroups (c : Change) (s : State) : State :=
  (List.finRange 8).foldl (fun acc g => evaluateGroup c g acc) s

/-- Every enabled group takes its standing state, no trip time remaining (R85, R86). -/
def standGroups (s : State) : State :=
  { s with groups := mapV (fun gr =>
      if gr.cfg.enabled then { gr with state := standingState s.lines gr.cfg } else gr) s.groups }

/-- Every group becomes OFF (R87). -/
def groupsOff (s : State) : State := { s with groups := mapV (fun gr => { gr with state := .off }) s.groups }

/-- SET_GROUP carried out (R73). -/
def setGroupRequest (p : List Byte) (s : State) : State × Reply :=
  withFields (decodeSetGroup p) (fun gc => inSetup fun s =>
    (s.setGroup gc.1 { s.groups[gc.1] with cfg := gc.2 }, ⟨.ok, .empty⟩)) s

/-- New reference levels stored: the level given for each member, 0 for each non-member (R88). -/
def storeReference (g : GroupNo) (levels : LineSet) (s : State) : State :=
  let gr := s.groups[g]
  s.setGroup g { gr with cfg := { gr.cfg with reference := levels &&& gr.cfg.members } }

/-- The evaluation of a rewrite while ARMED (R89). -/
def referenceEvaluation (g : GroupNo) (s : State) : State × Reply :=
  let gr := s.groups[g]
  let st := standingState s.lines gr.cfg
  (appendTo gr.cfg.route { body := .reference g gr.cfg.reference st, timestamp := s.time }
    (s.setGroup g { gr with state := st }), ⟨.ok, .groupState st⟩)

/-- SET_REFERENCE carried out (R88, R89). DESIGN CHOICE (log entry 16): the OK reply has an empty body where R88 lists no
field and the bare state where R89 gives it, not one layout with a presence byte for both. -/
def setReferenceRequest (p : List Byte) (s : State) : State × Reply :=
  withFields (decodeSetReference p) (fun gl s =>
    let stored := storeReference gl.1 gl.2 s
    if s.mode = .armed ∧ stored.groups[gl.1].cfg.enabled then recordingWith (referenceEvaluation gl.1) stored
    else (stored, ⟨.ok, .empty⟩)) s

/-- SET_GROUP (R72, R73). -/
def execSetGroup (s : State) : Host.Outcome State Fault Refusal := .next (awake (serve .setGroup setGroupRequest) s)

/-- SET_REFERENCE (R88 to R90). -/
def execSetReference (s : State) : Host.Outcome State Fault Refusal :=
  .next (awake (serve .setReference setReferenceRequest) s)

end Sys2Proof.Machine
end

