-- ==== Sys2Proof/Machine/Lines.lean ====
section
/-! DEFINITION. The line qualifier and the time base (chapter 3): raw changes, STABLE and LATCH qualification, chatter,
what a qualified change does, the timer expiries of a line, SET_LINE, SET_CHATTER, SET_TIME, GET_TIME. -/

namespace Sys2Proof.Machine

/-! ### What a qualified change does (R65) -/

/-- Step 1 of R65: an EDGE to the route if log-edges is set. -/
def logEdge (c : Change) (level : Bool) (s : State) : State :=
  let cfg := s.lines[c.line].cfg
  if cfg.logEdges then appendTo cfg.route (c.draft (.edge c.line level)) s else s

/-- Step 2 of R65: an EDGE to the burst spool of a line with the capture flag, unless step 1's serves for both. -/
def captureEdge (c : Change) (level : Bool) (s : State) : State :=
  let cfg := s.lines[c.line].cfg
  match s.burst.phase with
  | .isOpen b =>
      if cfg.capture && !(cfg.logEdges && cfg.route == b.spool) then appendTo b.spool (c.draft (.edge c.line level)) s
      else s
  | _ => s

/-- Step 3 of R65: a lookback entry of a line with the lookback flag while no burst is OPEN. -/
def enterRing (c : Change) (level : Bool) (s : State) : State :=
  match s.burst.phase with
  | .isOpen _ => s
  | _ =>
      if s.lines[c.line].cfg.lookback then
        s.setRing (pushRing { line := c.line, level, timestamp := c.time, late := c.late, afterChatter := c.afterChatter }
          s.burst.ring)
      else s

/-- A qualified change (R65): the qualified level, and while ARMED the four steps; in HOLD the level alone (R67). -/
def qualifiedChange (c : Change) (level : Bool) (s : State) : State :=
  let s1 := s.setLine c.line { s.lines[c.line] with qualified := level }
  if s.mode = .armed then evaluateGroups c (enterRing c level (captureEdge c level (logEdge c level s1))) else s1

/-! ### Chatter (R60 to R64) -/

/-- A line enters SUPPRESSED (R62). -/
def suppress (l : LineNo) (s : State) : State :=
  let ln := s.lines[l]
  let s1 := s.setLine l { ln with state := .suppressed (1000 * s.rc), window := none }
  if s.mode = .armed then
    raise chatterClass (.chatter (singleLine l))
      (appendTo ln.cfg.route { body := .chatter l ln.chatterCount ln.qualified, timestamp := s.time } s1)
  else s1

/-- A rejected excursion is counted for chatter (R60). -/
def countExcursion (l : LineNo) (s : State) : State :=
  let ln := s.lines[l]
  if ln.cfg.k = 0 then s
  else
    let count := ln.chatterCount + 1
    let window := if ln.chatterCount = 0 then some (1000 * s.wc) else ln.window
    let s1 := s.setLine l { ln with chatterCount := count, window }
    if count = ln.cfg.k then suppress l s1 else s1

/-! ### Raw changes and expiries -/

/-- A raw change of a line in QUIET: a departure (R54, R57). -/
def departure (l : LineNo) (s : State) : State :=
  let ln := s.lines[l]
  let change : Change := { line := l, time := s.time, late := false, afterChatter := false }
  match ln.cfg.qualify with
  | .stable =>
      if ln.cfg.q = 0 then qualifiedChange change ln.raw s
      else s.setLine l { ln with state := .settling s.time ln.cfg.q }
  | .latch =>
      qualifiedChange change ln.raw (if ln.cfg.q = 0 then s else s.setLine l { ln with state := .lockout ln.cfg.q })

/-- A sample of a line's pin (R51): a raw change, where the level differs, taken according to the line's state (R52,
R54, R55, R57, R58, R63). -/
def rawChange (l : LineNo) (pin : Bool) (s : State) : State :=
  if s.lines[l].pin = pin then s
  else
    let ln : Line := { s.lines[l] with pin }
    let s1 := s.setLine l ln
    match ln.state with
    | .idle => s.setLine l { ln with qualified := ln.raw }
    | .quiet => departure l s1
    | .settling _ _ => countExcursion l (s.setLine l { ln with state := .quiet })
    | .lockout _ => if ln.raw = ln.qualified then countExcursion l s1 else s1
    | .suppressed _ => s.setLine l { ln with state := .suppressed (1000 * s.rc) }

/-- The qualify timer of a SETTLING line has run out (R56). -/
def settlingExpiry (l : LineNo) (s : State) : State :=
  let ln := s.lines[l]
  match ln.state with
  | .settling t0 0 =>
      qualifiedChange { line := l, time := t0, late := false, afterChatter := false } ln.raw
        (s.setLine l { ln with state := .quiet })
  | _ => s

/-- The qualify timer of a line in LOCKOUT has run out (R59). -/
def lockoutExpiry (l : LineNo) (s : State) : State :=
  let ln := s.lines[l]
  match ln.state with
  | .lockout 0 =>
      if ln.raw = ln.qualified then s.setLine l { ln with state := .quiet }
      else
        qualifiedChange { line := l, time := s.time, late := true, afterChatter := false } ln.raw
          (s.setLine l { ln with state := .lockout ln.cfg.q })
  | _ => s

/-- The chatter window timer of a line has run out (R61). -/
def windowExpiry (l : LineNo) (s : State) : State :=
  let ln := s.lines[l]
  if ln.window = some 0 then s.setLine l { ln with chatterCount := 0, window := none } else s

/-- The release timer of a SUPPRESSED line has run out (R64). -/
def releaseExpiry (l : LineNo) (s : State) : State :=
  let ln := s.lines[l]
  match ln.state with
  | .suppressed 0 =>
      let s1 := s.setLine l { ln with state := .quiet, chatterCount := 0 }
      let s2 :=
        if s.mode = .armed then
          appendTo ln.cfg.route
            { body := .chatterEnd l ln.raw (ln.raw != ln.qualified), timestamp := s.time } s1
        else s1
      if ln.raw = ln.qualified then s2
      else qualifiedChange { line := l, time := s.time, late := false, afterChatter := true } ln.raw s2
  | _ => s

/-! ### ARM, DISARM and soft RESET at the qualifier (R53) -/

/-- A line at ARM (R53). -/
def Line.arm (ln : Line) : Line :=
  if ln.cfg.enabled then { ln with state := .quiet, qualified := ln.raw, chatterCount := 0, window := none } else ln

/-- A line entering IDLE at DISARM or soft RESET (R53). DEDUCED (log entry 10), unsafe: its qualified level is its raw
level from here on, at once. -/
def Line.disarm (ln : Line) : Line :=
  { ln with state := .idle, qualified := ln.raw, chatterCount := 0, window := none }

def armLines (s : State) : State := { s with lines := mapV Line.arm s.lines }
def disarmLines (s : State) : State := { s with lines := mapV Line.disarm s.lines }

/-! ### Requests -/

/-- A configuration stored in SETUP (R49): a change of invert changes the raw level at once, and the qualified level of
an IDLE line follows it (R51, R52). -/
def Line.configure (ln : Line) (cfg : LineConfig) : Line :=
  let ln' := { ln with cfg }
  if ln.state = .idle then { ln' with qualified := ln'.raw } else ln'

/-- SET_LINE carried out (R49). -/
def setLineRequest (p : List Byte) (s : State) : State × Reply :=
  withFields (decodeSetLine p) (fun lc => inSetup fun s =>
    (s.setLine lc.1 (s.lines[lc.1].configure lc.2), ⟨.ok, .empty⟩)) s

/-- SET_CHATTER carried out (R50). -/
def setChatterRequest (p : List Byte) (s : State) : State × Reply :=
  withFields (decodeSetChatter p) (fun wr => inSetup fun s => ({ s with wc := wr.1, rc := wr.2 }, ⟨.ok, .empty⟩)) s

/-- The time base takes the value `t`; while ARMED every enabled spool is asked for a TIME_STEP (R69). -/
def stepTime (t : Nat) (s : State) : State :=
  let s1 := s.setTime t
  if s.mode = .armed then appendToAll { body := .timeStep s.time t, timestamp := t } s1 else s1

/-- SET_TIME carried out (R69). -/
def setTimeRequest (p : List Byte) (s : State) : State × Reply :=
  (recording (stepTime (field p 1 6)) s, ⟨.ok, .times s.time (field p 1 6)⟩)

/-- GET_TIME carried out (R70). -/
def getTimeRequest (_p : List Byte) (s : State) : State × Reply := (s, ⟨.ok, .time s.time⟩)

/-! ### Meanings -/

/-- SET_LINE (R49). -/
def execSetLine (s : State) : Host.Outcome State Fault Refusal := .next (awake (serve .setLine setLineRequest) s)

/-- SET_CHATTER (R50). -/
def execSetChatter (s : State) : Host.Outcome State Fault Refusal :=
  .next (awake (serve .setChatter setChatterRequest) s)

/-- SET_TIME (R69). -/
def execSetTime (s : State) : Host.Outcome State Fault Refusal := .next (awake (serve .setTime setTimeRequest) s)

/-- GET_TIME (R70). -/
def execGetTime (s : State) : Host.Outcome State Fault Refusal := .next (awake (serve .getTime getTimeRequest) s)

/-- RAW_CHANGE (R51). -/
def execRawChange (l : LineNo) (pin : Bool) (s : State) : Host.Outcome State Fault Refusal :=
  .next (awake (recording (rawChange l pin)) s)

/-- SETTLING_TIMER_EXPIRY (R56). -/
def execSettlingTimerExpiry (l : LineNo) (s : State) : Host.Outcome State Fault Refusal :=
  .next (awake (recording (settlingExpiry l)) s)

/-- LOCKOUT_EXPIRY (R59). -/
def execLockoutExpiry (l : LineNo) (s : State) : Host.Outcome State Fault Refusal :=
  .next (awake (recording (lockoutExpiry l)) s)

/-- CHATTER_WINDOW_EXPIRY (R61). -/
def execChatterWindowExpiry (l : LineNo) (s : State) : Host.Outcome State Fault Refusal :=
  .next (awake (windowExpiry l) s)

/-- RELEASE_TIMER_EXPIRY (R64). -/
def execReleaseTimerExpiry (l : LineNo) (s : State) : Host.Outcome State Fault Refusal :=
  .next (awake (recording (releaseExpiry l)) s)

end Sys2Proof.Machine
end

