-- ==== Sys2Proof/Machine/Modes.lean ====
section
/-! DEFINITION. The mode controller (chapter 6): the mode requests, ARM validation, MODE records, soft RESET. -/

namespace Sys2Proof.Machine

/-! ### ARM validation (R119) -/

/-- Check 2 of R119 for one group: its first fault. -/
def groupFault (s : State) (g : GroupNo) : Option ArmFailure :=
  let cfg := s.groups[g].cfg
  if cfg.enabled = false then none
  else if cfg.members = 0 then some (.group g .noMembers none)
  else
    match (List.finRange 32).find? fun l => cfg.members.getLsbD l.val && !s.lines[l].cfg.enabled with
    | some l => some (.group g .disabledMember (some l))
    | none => if s.spools[cfg.route].enabled then none else some (.group g .disabledRoute none)

/-- Check 3 of R119 for one group. -/
def windowFault (s : State) (g : GroupNo) : Option ArmFailure :=
  let cfg := s.groups[g].cfg
  if cfg.enabled ∧ cfg.action = .burst ∧ s.burst.settings.m < cfg.w then some (.window g cfg.w s.burst.settings.m)
  else none

/-- Check 4 of R119 for one line. -/
def lineFault (s : State) (l : LineNo) : Option ArmFailure :=
  let cfg := s.lines[l].cfg
  if cfg.enabled && (cfg.logEdges || cfg.k != 0) && !s.spools[cfg.route].enabled then some (.line l cfg.route) else none

/-- The first check of R119 that fails, with its subject; `none` where every check passes. -/
def armFailure (s : State) : Option ArmFailure :=
  (if s.spools.toList.any Spool.enabled then none else some .noSpool)
    <|> (List.finRange 8).findSome? (groupFault s)
    <|> (List.finRange 8).findSome? (windowFault s)
    <|> (List.finRange 32).findSome? (lineFault s)

/-! ### Mode requests (R118, R121 to R125) -/

/-- The MODE record of a mode request (R125). -/
def modeDraft (m : Mode) (cause : ModeCause) (s : State) : Draft := { body := .mode m cause, timestamp := s.time }

/-- The mode records of an accepted mode request, one to each enabled spool (R125). -/
def recordMode (m : Mode) (cause : ModeCause) (s : State) : State := appendToAll (modeDraft m cause s) s

/-- ARM after validation (R121). -/
def armRecorder (s : State) : State := recordMode .armed .arm (standGroups (armLines (s.setMode .armed)))

/-- HOLD (R122). -/
def holdRecorder (s : State) : State := recordMode .hold .hold ((endBurstEarly .held s).setMode .hold)

/-- RESUME (R123). -/
def resumeRecorder (s : State) : State := recordMode .armed .resume (standGroups (s.setMode .armed))

/-- DISARM (R124). -/
def disarmRecorder (s : State) : State :=
  recordMode .setup .disarm (groupsOff (disarmLines ((endBurstEarly .disarmed s).setMode .setup)))

/-- The set of enabled groups that ARM left BLOCKED (R118). -/
def blockedGroups (s : State) : SmallSet :=
  (List.finRange 8).foldr (fun g acc => if s.groups[g].state = .blocked then acc ||| single g else acc) 0

/-- ARM carried out (R118 to R121). -/
def armRequest (_p : List Byte) : State → State × Reply :=
  inSetup fun s =>
    match armFailure s with
    | some f => (s, ⟨.configInvalid, .configInvalid f⟩)
    | none => let t := recording armRecorder s; (t, ⟨.ok, .armed .armed (blockedGroups t)⟩)

/-- HOLD carried out (R118, R122). -/
def holdRequest (_p : List Byte) (s : State) : State × Reply :=
  if s.mode = .armed then (recording holdRecorder s, ⟨.ok, .mode .hold⟩) else wrongMode s

/-- RESUME carried out (R118, R123). -/
def resumeRequest (_p : List Byte) (s : State) : State × Reply :=
  if s.mode = .hold then (recording resumeRecorder s, ⟨.ok, .mode .armed⟩) else wrongMode s

/-- DISARM carried out (R118, R124). -/
def disarmRequest (_p : List Byte) (s : State) : State × Reply :=
  if s.mode = .setup then wrongMode s else (recording disarmRecorder s, ⟨.ok, .mode .setup⟩)

/-! ### Soft RESET (R128 to R130) -/

/-- A frame that a soft RESET discards from the reply queue: a STREAM_END waiting there (R156). -/
def Frame.isStreamEnd : Frame → Bool
  | .streamEnd _ _ => true
  | _ => false

/-- A class at soft RESET (R205). -/
def NoteClass.clear (c : NoteClass) : NoteClass :=
  { c with pendingDetail := none, outstanding := none, timer := none, resendDue := false }

/-- Soft RESET at the recording blocks (R128). -/
def resetRecording (s : State) : State := groupsOff (disarmLines ((abandonBurst s).setMode .setup))

/-- Soft RESET at the cursor unit and the reply queue (R129, R156). -/
def resetReadout (s : State) : State :=
  let s1 := s.setCursors (Vector.replicate 4 { state := .closed, inFlight := none })
  s1.setLink { s1.link with replyQueue := s1.link.replyQueue.filter fun f => !f.isStreamEnd }

/-- Soft RESET at the notification unit (R129, R205). -/
def resetNotes (s : State) : State :=
  { s with notes := { classes := mapV NoteClass.clear s.notes.classes, credit := 0 } }

/-- Soft RESET (R128 to R130). -/
def softReset (s : State) : State := resetNotes (resetReadout (recording resetRecording s))

/-- RESET carried out (R128). -/
def resetRequest (_p : List Byte) (s : State) : State × Reply := (softReset s, ⟨.ok, .empty⟩)

/-! ### Meanings -/

/-- ARM (R118 to R121). -/
def execArm (s : State) : Host.Outcome State Fault Refusal := .next (awake (serve .arm armRequest) s)

/-- HOLD (R118, R122). -/
def execHold (s : State) : Host.Outcome State Fault Refusal := .next (awake (serve .hold holdRequest) s)

/-- RESUME (R118, R123). -/
def execResume (s : State) : Host.Outcome State Fault Refusal := .next (awake (serve .resume resumeRequest) s)

/-- DISARM (R118, R124). -/
def execDisarm (s : State) : Host.Outcome State Fault Refusal := .next (awake (serve .disarm disarmRequest) s)

/-- RESET (R128 to R130). -/
def execReset (s : State) : Host.Outcome State Fault Refusal := .next (awake (serve .reset resetRequest) s)

end Sys2Proof.Machine
end

