-- ==== Sys2Proof/Machine/Resets.lean ====
section
/-! DEFINITION. Pin reset and power-on (section 6.6): RSTn going low, its release, and the end of power-on. -/

namespace Sys2Proof.Machine

/-- A low level on RSTn takes effect (R131): everything in progress is abandoned, the time base stands at 0, and ATTN
is negated (`attnAsserted`). What R131 does not name keeps its value until the release (log entry 12). DESIGN CHOICE (log
entry 15), safe: a low period of the receive line taken as a break before RSTn went low may be taken as another after it;
R171 is silent on a low period that RSTn falls into. -/
def rstnLow (s : State) : State :=
  { s with
    inReset := true, time := 0,
    spools := mapV (fun sp => { sp with erasing := none }) s.spools,
    link := { s.link with
      rx := .hunt, breakTaken := false, intake := [], outstanding := [], replyQueue := [], refusalSlots := 0,
      path := none } }

/-- Every block takes its pin-reset values, with the contacts as sampled there (R132); the model's queue stays. -/
def pinReset (pins : LineSet) (spd1 spd0 : Bool) (s : State) : State :=
  { State.atReset pins (speedOf spd1 spd0) with pending := s.pending }

/-- RSTN_LOW (R131). -/
def execRstnLow (s : State) : Host.Outcome State Fault Refusal := .next (rstnLow s)

/-- PIN_RESET (R132). -/
def execPinReset (pins : LineSet) (spd1 spd0 : Bool) (s : State) : Host.Outcome State Fault Refusal :=
  .next (pinReset pins spd1 spd0 s)

/-- POWER_ON (R131): as a pin reset. -/
def execPowerOn (pins : LineSet) (spd1 spd0 : Bool) (s : State) : Host.Outcome State Fault Refusal :=
  .next (pinReset pins spd1 spd0 s)

end Sys2Proof.Machine
end

