-- ==== Sys2Proof/Machine/Status.lean ====
section
/-! DEFINITION. The status requests (section 9.6) and the taking of a request that fails check 1 of R182. -/

namespace Sys2Proof.Machine

/-- What GET_STATUS reports (R186). -/
def State.statusReport (s : State) : StatusReport :=
  { mode := s.mode, raw := rawLevels s.lines, qualified := qualifiedLevels s.lines,
    lineStates := s.lines.toList.map fun l => l.state.code,
    groups := s.groups.toList.map fun g => (g.state, g.cfg),
    phase := s.burst.phase }

/-- GET_STATUS carried out (R186). -/
def getStatusRequest (_p : List Byte) (s : State) : State × Reply := (s, ⟨.ok, .status s.statusReport⟩)

/-- What GET_COUNTERS reports (R187). -/
def State.countersBody (s : State) (cleared : Bool) : Body :=
  .counters s.link.counters.toList (s.spools.toList.map (·.totalLost)) (s.groups.toList.map (·.tripCount)) cleared

/-- Every link counter, total lost and trip count becomes 0 (R187). -/
def clearCounters (s : State) : State :=
  { s with
    link := { s.link with counters := Vector.replicate 6 0 },
    spools := mapV (fun sp => { sp with totalLost := 0 }) s.spools,
    groups := mapV (fun g => { g with tripCount := 0 }) s.groups }

/-- GET_COUNTERS carried out (R187). -/
def getCountersRequest (p : List Byte) : State → State × Reply :=
  withFields (decodeGetCounters p) fun clear s =>
    (if clear then clearCounters s else s, ⟨.ok, s.countersBody clear⟩)

/-- IDENTIFY carried out (R188). -/
def identifyRequest (_p : List Byte) (s : State) : State × Reply := (s, ⟨.ok, .identify s.link.speed⟩)

/-- A request refused at check 1 of R182. -/
def badRequest (_p : List Byte) : State → State × Reply := refuse .badRequest

/-! ### Meanings -/

/-- GET_STATUS (R186). -/
def execGetStatus (s : State) : Host.Outcome State Fault Refusal := .next (awake (serve .getStatus getStatusRequest) s)

/-- GET_COUNTERS (R187). -/
def execGetCounters (s : State) : Host.Outcome State Fault Refusal :=
  .next (awake (serve .getCounters getCountersRequest) s)

/-- IDENTIFY (R188). -/
def execIdentify (s : State) : Host.Outcome State Fault Refusal := .next (awake (serve .identify identifyRequest) s)

/-- BAD_REQUEST_TAKEN (R182, check 1). -/
def execBadRequestTaken (s : State) : Host.Outcome State Fault Refusal :=
  .next (awake (serve .badRequestTaken badRequest) s)

end Sys2Proof.Machine
end

