-- ==== Sys2Proof/Machine/Store.lean ====
section
/-! DEFINITION. The store's own requests (chapters 1 and 2): SET_SPOOL, CUT, RELEASE, PIN, UNPIN, ERASE, GET_SPOOL, and
the completion of an erase. -/

namespace Sys2Proof.Machine

/-! ### SET_SPOOL (R7 to R9) -/

/-- A capacity with the present capacities of the other three spools does not exceed 8192 (R7). -/
def capacitySumOk (s : State) (i : SpoolNo) (capacity : Nat) : Bool :=
  (List.finRange 4).foldl (fun n j => n + if j = i then capacity else s.spools[j].capacity) 0 ≤ Config.recordSlots

/-- The fields of a SET_SPOOL, all in range (R7). -/
def setSpoolFields (p : List Byte) (s : State) : Option (SpoolNo × Nat × Policy × Nat) :=
  (decodeSetSpool p).filter fun f => capacitySumOk s f.1 f.2.1

/-- A SET_SPOOL stored (R8), near-full compared at once (R9). A change of capacity clears segment-open and the burst
segment flag. -/
def storeSpool (i : SpoolNo) (capacity : Nat) (policy : Policy) (threshold : Nat) (s : State) : State :=
  let sp := s.spools[i]
  let sp' := { sp with capacity, policy, threshold }
  let sp'' := if capacity = sp.capacity then sp' else { sp' with current := none, burstSeg := false }
  setNearFull i sp''.nearFullAfterSet (s.setSpool i sp'')

/-- SET_SPOOL carried out (R7, R8). -/
def setSpoolRequest (p : List Byte) (s : State) : State × Reply :=
  withFields (setSpoolFields p s) (fun f s =>
    let sp := s.spools[f.1]
    if s.mode = .setup then
      if f.2.1 ≠ sp.capacity ∧ (sp.held ≠ [] ∨ sp.erasing.isSome) then refuse .spoolNotEmpty s
      else (storeSpool f.1 f.2.1 f.2.2.1 f.2.2.2 s, ⟨.ok, .empty⟩)
    else if f.2.1 ≠ sp.capacity ∨ f.2.2.1 ≠ sp.policy then wrongMode s
    else (storeSpool f.1 f.2.1 f.2.2.1 f.2.2.2 s, ⟨.ok, .empty⟩)) s

/-! ### CUT (R21) -/

/-- CUT of a spool (R21). -/
def cutSpool (i : SpoolNo) (s : State) : State × Reply :=
  let sp := s.spools[i]
  if sp.enabled = false then refuse .spoolDisabled s
  else if sp.erasing.isSome then refuse .spoolBusy s
  else if sp.burstSeg then refuse .burstActive s
  else
    match sp.current with
    | none => (s, ⟨.ok, .cut none⟩)
    | some seg =>
        if sp.room (1 + sp.tally.isSome.toNat) = false then refuse .spoolFull s
        else
          let r := recordingWith (append i { body := .mark .cut 0 none, timestamp := s.time }) s
          (r.1, ⟨.ok, .cut (r.2.map fun q => (q, seg))⟩)

/-- CUT carried out (R21). -/
def cutRequest (p : List Byte) : State → State × Reply := withFields (decodeSpool p) cutSpool

/-! ### RELEASE (R29 to R31) -/

/-- The records a RELEASE removes leave the spool and are handed to the cursor unit (R30, R31). -/
def releaseSpool (i : SpoolNo) (n : Nat) (s : State) : State :=
  let sp := s.spools[i]
  let k := sp.releaseCount n
  lapCursors i ((sp.held.take k).map (·.seq)) (s.setSpool i (sp.removeOldest k))

/-- The segment that stopped a RELEASE up to `n`, if it stopped at a record numbered `n` or less (R30). -/
def stoppingSegment (sp : Spool) (n : Nat) : Option Nat :=
  match sp.held.head? with
  | some r => if r.seq ≤ n then some r.seg else none
  | none => none

/-- RELEASE carried out (R29, R30). -/
def releaseRequest (p : List Byte) (s : State) : State × Reply :=
  withFields (decodeRelease p) (fun f s =>
    let sp := s.spools[f.1]
    if sp.enabled = false then refuse .spoolDisabled s
    else if sp.erasing.isSome then refuse .spoolBusy s
    else
      let t := recording (releaseSpool f.1 f.2) s
      let sp' := t.spools[f.1]
      (t, ⟨.ok, .release (sp.releaseCount f.2) (sp'.held.head?.map (·.seq)) (stoppingSegment sp' f.2)⟩)) s

/-! ### PIN and UNPIN (R33, R34) -/

/-- PIN carried out (R33). -/
def pinRequest (p : List Byte) (s : State) : State × Reply :=
  withFields (decodePin p) (fun f s =>
    let sp := s.spools[f.1]
    if sp.enabled = false then refuse .spoolDisabled s
    else if sp.erasing.isSome then refuse .spoolBusy s
    else if sp.held.all (fun r => r.seg != f.2) then (s, ⟨.noSuchSegment, .pins sp.pins.length⟩)
    else if f.2 ∈ sp.pins then (s, ⟨.ok, .pin true sp.pins.length⟩)
    else if Config.pinTableSize ≤ sp.pins.length then (s, ⟨.pinTableFull, .pins sp.pins.length⟩)
    else (s.setSpool f.1 { sp with pins := insertPin f.2 sp.pins }, ⟨.ok, .pin false (sp.pins.length + 1)⟩)) s

/-- UNPIN carried out (R34). -/
def unpinRequest (p : List Byte) (s : State) : State × Reply :=
  withFields (decodePin p) (fun f s =>
    let sp := s.spools[f.1]
    if sp.enabled = false then refuse .spoolDisabled s
    else if f.2 ∉ sp.pins then refuse .notPinned s
    else
      let pins := sp.pins.filter (· != f.2)
      (s.setSpool f.1 { sp with pins }, ⟨.ok, .pins pins.length⟩)) s

/-! ### ERASE (R39 to R42, R46) -/

/-- A cursor at the start of an erase of spool `i` (R42). -/
def Cursor.lapForErase (i : SpoolNo) (c : Cursor) : Cursor :=
  match c.state with
  | .positioned sp _ => if sp = i then { state := .lapped i, inFlight := none } else c
  | .streaming sp _ _ _ => if sp = i then { state := .lapped i, inFlight := none } else c
  | _ => c

/-- The start of an erase (R40). -/
def startErase (i : SpoolNo) (s : State) : State :=
  let s1 := s.setSpool i s.spools[i].startErase
  endBurstForErase i (s1.setCursors (mapV (Cursor.lapForErase i) s1.cursors))

/-- The outcome of an ERASE: a refusal, or `none` where the erase starts (R39). -/
def eraseRefusal (p : List Byte) (s : State) : Option Status :=
  match decodeSpool p with
  | none => some .badArgument
  | some i =>
      if s.spools[i].enabled = false then some .spoolDisabled
      else if s.spools[i].erasing.isSome then some .spoolBusy
      else none

/-- The taking of an ERASE (R39, R181): a refused one is answered at once; one that starts passes to stage ERASING with
its spool, and its reply waits for the completion. -/
def takeErase (s : State) : State :=
  match s.link.intake with
  | r :: rest =>
      if r.row = .erase then
        let s1 := s.setLink { s.link with intake := rest }
        match eraseRefusal r.payload s1, decodeSpool r.payload with
        | none, some i =>
            let s2 := recording (startErase i) s1
            s2.setLink { s2.link with outstanding := setStage r.tag (.erasing i) s2.link.outstanding }
        | st, _ => makeReady r.tag r.code ⟨st.getD .badArgument, .empty⟩ s1
      else s
  | [] => s

/-- The outstanding entry of the erase of spool `i` (R177). -/
def erasingEntry (i : SpoolNo) (es : List Entry) : Option Entry := es.find? fun e => e.stage == .erasing i

/-- The completion of an erase (R46): the spool is emptied, and the reply of the ERASE still outstanding is made ready;
without one it is discarded (R47). -/
def completeErase (i : SpoolNo) (s : State) : State :=
  let sp := s.spools[i]
  match sp.erasing with
  | none => s
  | some _ =>
      let s1 := s.setSpool i sp.finishErase
      match erasingEntry i s.link.outstanding with
      | some e => makeReady e.tag e.code ⟨.ok, .erased sp.held.length sp.nextSeq sp.nextSeg⟩ s1
      | none => s1

/-! ### GET_SPOOL (R26) -/

/-- What GET_SPOOL reports of a spool (R26). -/
def Spool.report (sp : Spool) : SpoolReport :=
  { capacity := sp.capacity, policy := sp.policy, threshold := sp.threshold, heldCount := sp.held.length,
    reservation := sp.reservation, free := sp.free, ends := sp.ends, nextSeq := sp.nextSeq, nextSeg := sp.nextSeg,
    segOpen := sp.current.isSome, current := sp.current.map fun c => (c, sp.segCount), burstSeg := sp.burstSeg,
    tallyCount := sp.tallyCount, lostTimes := sp.tally.map fun t => (t.first, t.last), totalLost := sp.totalLost,
    nearFull := sp.nearFull, erasing := sp.erasing.isSome, pins := sp.pins }

/-- GET_SPOOL carried out (R26, R45). -/
def getSpoolRequest (p : List Byte) : State → State × Reply :=
  withFields (decodeSpool p) fun i s => (s, ⟨.ok, .spool s.spools[i].report⟩)

/-! ### Meanings -/

/-- SET_SPOOL (R7 to R9). -/
def execSetSpool (s : State) : Host.Outcome State Fault Refusal := .next (awake (serve .setSpool setSpoolRequest) s)

/-- CUT (R21). -/
def execCut (s : State) : Host.Outcome State Fault Refusal := .next (awake (serve .cut cutRequest) s)

/-- RELEASE (R29 to R31). -/
def execRelease (s : State) : Host.Outcome State Fault Refusal := .next (awake (serve .release releaseRequest) s)

/-- PIN (R33). -/
def execPin (s : State) : Host.Outcome State Fault Refusal := .next (awake (serve .pin pinRequest) s)

/-- UNPIN (R34). -/
def execUnpin (s : State) : Host.Outcome State Fault Refusal := .next (awake (serve .unpin unpinRequest) s)

/-- ERASE (R39 to R42). -/
def execErase (s : State) : Host.Outcome State Fault Refusal := .next (awake takeErase s)

/-- GET_SPOOL (R26). -/
def execGetSpool (s : State) : Host.Outcome State Fault Refusal := .next (awake (serve .getSpool getSpoolRequest) s)

/-- ERASE_COMPLETION (R46). The time within the bound of R46 is not specified: the sender chooses it (log entry 6). -/
def execEraseCompletion (i : SpoolNo) (s : State) : Host.Outcome State Fault Refusal :=
  .next (awake (completeErase i) s)

end Sys2Proof.Machine
end

