-- ==== Sys2Proof/Machine/Dispatch.lean ====
section
/-! DEFINITION. One arm per command, each a direct call of its meaning. -/

namespace Sys2Proof.Machine

def exec (i : Instr) (s : State) : Host.Outcome State Fault Refusal :=
  match i with
  | .arm => Sys2Proof.Machine.execArm s
  | .hold => Sys2Proof.Machine.execHold s
  | .resume => Sys2Proof.Machine.execResume s
  | .disarm => Sys2Proof.Machine.execDisarm s
  | .reset => Sys2Proof.Machine.execReset s
  | .setLine => Sys2Proof.Machine.execSetLine s
  | .setChatter => Sys2Proof.Machine.execSetChatter s
  | .setGroup => Sys2Proof.Machine.execSetGroup s
  | .setReference => Sys2Proof.Machine.execSetReference s
  | .setSpool => Sys2Proof.Machine.execSetSpool s
  | .setBurst => Sys2Proof.Machine.execSetBurst s
  | .setNote => Sys2Proof.Machine.execSetNote s
  | .setTime => Sys2Proof.Machine.execSetTime s
  | .getTime => Sys2Proof.Machine.execGetTime s
  | .cut => Sys2Proof.Machine.execCut s
  | .release => Sys2Proof.Machine.execRelease s
  | .pin => Sys2Proof.Machine.execPin s
  | .unpin => Sys2Proof.Machine.execUnpin s
  | .erase => Sys2Proof.Machine.execErase s
  | .getSpool => Sys2Proof.Machine.execGetSpool s
  | .openCursor => Sys2Proof.Machine.execOpenCursor s
  | .closeCursor => Sys2Proof.Machine.execCloseCursor s
  | .read => Sys2Proof.Machine.execRead s
  | .space => Sys2Proof.Machine.execSpace s
  | .skip => Sys2Proof.Machine.execSkip s
  | .stream => Sys2Proof.Machine.execStream s
  | .stopStream => Sys2Proof.Machine.execStopStream s
  | .listSegments => Sys2Proof.Machine.execListSegments s
  | .credit => Sys2Proof.Machine.execCredit s
  | .ackNote => Sys2Proof.Machine.execAckNote s
  | .getStatus => Sys2Proof.Machine.execGetStatus s
  | .getCounters => Sys2Proof.Machine.execGetCounters s
  | .identify => Sys2Proof.Machine.execIdentify s
  | .badRequestTaken => Sys2Proof.Machine.execBadRequestTaken s
  | .rawChange line pin => Sys2Proof.Machine.execRawChange line pin s
  | .settlingTimerExpiry line => Sys2Proof.Machine.execSettlingTimerExpiry line s
  | .lockoutExpiry line => Sys2Proof.Machine.execLockoutExpiry line s
  | .chatterWindowExpiry line => Sys2Proof.Machine.execChatterWindowExpiry line s
  | .releaseTimerExpiry line => Sys2Proof.Machine.execReleaseTimerExpiry line s
  | .deadlineExpiry => Sys2Proof.Machine.execDeadlineExpiry s
  | .cooldownExpiry => Sys2Proof.Machine.execCooldownExpiry s
  | .acknowledgeTimerExpiry cls => Sys2Proof.Machine.execAcknowledgeTimerExpiry cls s
  | .gapTimeout => Sys2Proof.Machine.execGapTimeout s
  | .eraseCompletion spool => Sys2Proof.Machine.execEraseCompletion spool s
  | .frameArrival check => Sys2Proof.Machine.execFrameArrival check s
  | .lengthFault byte => Sys2Proof.Machine.execLengthFault byte s
  | .characterError stillLow => Sys2Proof.Machine.execCharacterError stillLow s
  | .linkBreak => Sys2Proof.Machine.execLinkBreak s
  | .arbiterChoice => Sys2Proof.Machine.execArbiterChoice s
  | .transmissionCompletion => Sys2Proof.Machine.execTransmissionCompletion s
  | .rstnLow => Sys2Proof.Machine.execRstnLow s
  | .pinReset pins spd1 spd0 => Sys2Proof.Machine.execPinReset pins spd1 spd0 s
  | .powerOn pins spd1 spd0 => Sys2Proof.Machine.execPowerOn pins spd1 spd0 s
  | .characterReceived byte => Sys2Proof.Machine.execCharacterReceived byte s
  | .receiveLineReturnsHigh => Sys2Proof.Machine.execReceiveLineReturnsHigh s

end Sys2Proof.Machine
end

