-- ==== Sys2Proof/Machine/Idle.lean ====
section
/-! DEFINITION. What a step does when no command waits. -/

namespace Sys2Proof.Machine

/-- DESIGN CHOICE (log entry 3). No command waits: while RSTn is low nothing happens (R131); otherwise the recorder
takes its own next event, and where it has none 1 µs passes. -/
def idle (s : State) : Host.Outcome State Fault Refusal :=
  if s.inReset then .next s
  else
    match ownEvent s with
    | some c => exec c s
    | none => .next (elapse 1 s)

end Sys2Proof.Machine
end

