-- ==== Sys2Proof/Safety.lean ====
section
/-! DEFINITION. The words the claims use: what the taking of a request does to the link, what an event of the recording
blocks may touch, and the laws the manual says the recorder upholds at all times. -/

namespace Sys2Proof.Machine

/-! ### Requests and their replies -/

/-- The link after the request with `tag` was taken, leaving `rest` in the intake, with `frames` made ready (R181). -/
def Link.answered (l : Link) (tag : Byte) (rest : List Request) (frames : List Frame) : Link :=
  { l with
    intake := rest,
    outstanding := l.outstanding.map fun e => if e.tag = tag then { e with stage := .replying } else e,
    replyQueue := l.replyQueue ++ frames }

/-- `s` with the request answered by one REPLY frame and nothing else changed. -/
def State.answered (s : State) (tag : Byte) (rest : List Request) (code : Byte) (status : Status) (body : Body) : State :=
  { s with link := s.link.answered tag rest [.reply tag (some code) ⟨status, body⟩ true] }

/-- A list of commands carried out one after the other. -/
def runCommands : List Instr → State → Host.Outcome State Fault Refusal
  | [], s => .next s
  | c :: cs, s =>
      match exec c s with
      | .next t => runCommands cs t
      | o => o

/-- The commands by which the bytes of a frame arrive: every byte but the last is a character, the last a frame's
arrival (R161, R163). -/
def arrivalOf : List Byte → List Instr
  | [] => []
  | [b] => [.frameArrival b]
  | b :: bs => .characterReceived b :: arrivalOf bs

/-- The commands that are the taking of a request (log entry 1). -/
def Instr.isRequest : Instr → Bool
  | .arm | .hold | .resume | .disarm | .reset | .setLine | .setChatter | .setGroup | .setReference | .setSpool
  | .setBurst | .setNote | .setTime | .getTime | .cut | .release | .pin | .unpin | .erase | .getSpool | .openCursor
  | .closeCursor | .read | .space | .skip | .stream | .stopStream | .listSegments | .credit | .ackNote | .getStatus
  | .getCounters | .identify | .badRequestTaken => true
  | _ => false

/-- The commands of RSTn and the supply, the only ones taken while RSTn is low (R131, R132). -/
def Instr.isReset : Instr → Bool
  | .rstnLow | .pinReset _ _ _ | .powerOn _ _ _ => true
  | _ => false

/-! ### Payloads of requests (R212 to R214) -/

def Payload.setLine (l : LineNo) (c : LineConfig) : List Byte :=
  [0x10, byte l.val,
   byte (c.enabled.toNat + 2 * c.invert.toNat + 4 * c.logEdges.toNat + 8 * c.lookback.toNat + 16 * c.capture.toNat),
   if c.qualify = .stable then 0 else 1] ++ leBytes 2 c.q ++ [byte c.k, byte c.route.val]

def Payload.setChatter (wc rc : Nat) : List Byte := 0x11 :: (leBytes 2 wc ++ leBytes 2 rc)

def Payload.setBurst (b : BurstSettings) : List Byte :=
  0x15 :: (leBytes 2 b.e ++ leBytes 4 b.m ++ leBytes 2 b.h ++ leBytes 2 b.tl ++ [byte b.p])

def Payload.setGroup (g : GroupNo) (c : GroupConfig) : List Byte :=
  [0x12, byte g.val, byte (c.enabled.toNat + 2 * c.pinOnBurst.toNat)] ++ leBytes 4 c.members.toNat
    ++ leBytes 4 c.reference.toNat ++ [byte c.priority, byte c.route.val, c.action.toCode] ++ leBytes 2 c.w

def Payload.setReference (g : GroupNo) (levels : LineSet) : List Byte := [0x13, byte g.val] ++ leBytes 4 levels.toNat

def Payload.setSpool (i : SpoolNo) (capacity : Nat) (policy : Policy) (threshold : Nat) : List Byte :=
  [0x14, byte i.val] ++ leBytes 2 capacity ++ [policy.toCode] ++ leBytes 2 threshold

def Payload.setTime (t : Nat) : List Byte := 0x20 :: leBytes 6 t

def Payload.release (i : SpoolNo) (n : Nat) : List Byte := [0x31, byte i.val] ++ leBytes 6 n

/-- PIN and UNPIN, by their code. -/
def Payload.pin (code : Byte) (i : SpoolNo) (seg : Nat) : List Byte := [code, byte i.val] ++ leBytes 4 seg

/-- OPEN_CURSOR: start code and its value bytes. -/
def Payload.openCursor (c : CursorNo) (i : SpoolNo) (st : Start) : List Byte :=
  [0x40, byte c.val, byte i.val] ++
    match st with
    | .oldest => 0 :: leBytes 6 0
    | .newest => 1 :: leBytes 6 0
    | .atEnd => 2 :: leBytes 6 0
    | .seq n => 3 :: leBytes 6 n
    | .segment g => 4 :: (leBytes 4 g ++ [0, 0])

/-- SPACE and SKIP, by their code; a negative count in two's complement (R213). -/
def Payload.move (code : Byte) (c : CursorNo) (n : Int) : List Byte := [code, byte c.val] ++ leBytes 2 (n % 65536).toNat

def Payload.stream (c : CursorNo) (count : Nat) (follow : Bool) : List Byte :=
  [0x45, byte c.val] ++ leBytes 2 count ++ [boolByte follow]

def Payload.listSegments (i : SpoolNo) (start count : Nat) : List Byte :=
  [0x47, byte i.val] ++ leBytes 4 start ++ [byte count]

/-- Requests with a field, other than the number they begin with, out of range at check 2 of R182: their row and payload
(R7, R49, R72, R136, R140, R142 to R144, R149, R195, R212). -/
inductive BadField (s : State) : Instr → List Byte → Prop where
  | setLine (l flags mode q q' k route : Byte) (h : 32 ≤ flags.toNat ∨ 2 ≤ mode.toNat ∨ 4 ≤ route.toNat) :
      BadField s .setLine [0x10, l, flags, mode, q, q', k, route]
  | setGroup (g flags priority route action : Byte) (members reference : LineSet) (w : Nat) (hw : w ≤ max16)
      (h : 4 ≤ flags.toNat ∨ 4 ≤ priority.toNat ∨ 4 ≤ route.toNat ∨ 2 ≤ action.toNat ∨ w = 0 ∨ 60000 < w) :
      BadField s .setGroup ([0x12, g, flags] ++ leBytes 4 members.toNat ++ leBytes 4 reference.toNat
        ++ [priority, route, action] ++ leBytes 2 w)
  | setSpool (i policy : Byte) (capacity threshold : Nat) (hc : capacity ≤ max16) (ht : threshold ≤ max16)
      (h : 2 ≤ policy.toNat ∨ capacity % 64 ≠ 0 ∨ capacity < threshold ∨ ∃ j : SpoolNo, i.toNat = j.val ∧
        8192 < capacity + (((List.finRange 4).filter (· ≠ j)).map fun k => s.spools[k].capacity).sum) :
      BadField s .setSpool ([0x14, i] ++ leBytes 2 capacity ++ [policy] ++ leBytes 2 threshold)
  | setNote (n enable priority t t' : Byte) (h : 2 ≤ enable.toNat) : BadField s .setNote [0x16, n, enable, priority, t, t']
  | openCursor (c i start : Byte) (value : List Byte) (hv : value.length = 6) (h : 4 ≤ i.toNat ∨ 5 ≤ start.toNat) :
      BadField s .openCursor (0x40 :: c :: i :: start :: value)
  | read (c k : Byte) (h : k = 0 ∨ 8 < k.toNat) : BadField s .read [0x42, c, k]
  | space (c : Byte) : BadField s .space [0x43, c, 0, 0]
  | skip (c : Byte) : BadField s .skip [0x44, c, 0, 0]
  | stream (c n n' follow : Byte) (h : 2 ≤ follow.toNat) : BadField s .stream [0x45, c, n, n', follow]
  | listSegments (i count : Byte) (start : Nat) (hs : start ≤ max32) (h : count = 0 ∨ 8 < count.toNat) :
      BadField s .listSegments ([0x47, i] ++ leBytes 4 start ++ [count])

/-- RELEASE, ERASE, OPEN_CURSOR and LIST_SEGMENTS naming spool `i`, with every field in range: row, code and payload. -/
inductive NamesSpool (i : SpoolNo) : Instr → Byte → List Byte → Prop where
  | release (n : Nat) (hn : n ≤ max48) : NamesSpool i .release 0x31 (Payload.release i n)
  | erase : NamesSpool i .erase 0x34 [0x34, byte i.val]
  | openCursor (c : CursorNo) (st : Start) (hn : ∀ n, st = .seq n → n ≤ max48) (hg : ∀ g, st = .segment g → g ≤ max32) :
      NamesSpool i .openCursor 0x40 (Payload.openCursor c i st)
  | listSegments (start count : Nat) (hs : start ≤ max32) (h1 : 1 ≤ count) (h8 : count ≤ 8) :
      NamesSpool i .listSegments 0x47 (Payload.listSegments i start count)

/-! ### Events of the recording blocks -/

/-- The blocks other than store, cursors, link and notifications are as before. -/
structure StoreOnly (s t : State) : Prop where
  mode : t.mode = s.mode
  time : t.time = s.time
  lines : t.lines = s.lines
  groups : t.groups = s.groups
  burst : t.burst = s.burst

/-- A spool at the end of an event that took it from `sp0` to `sp`: near-full evaluated where occupancy changed (R24). -/
def Spool.atEventEnd (sp0 sp : Spool) : Spool :=
  if sp0.occupancy = sp.occupancy then sp else { sp with nearFull := sp.nearFullAfterEvent }

/-- A spool after an ordinary append asked for at time `now` (R12). -/
def Spool.appended (sp : Spool) (now : Nat) (d : Draft) : Spool := (sp.append now d).spool

/-- A spool after ordinary appends asked for at time `now`, one after the other. -/
def Spool.appendedAll (sp : Spool) (now : Nat) (ds : List Draft) : Spool := ds.foldl (fun sp d => sp.appended now d) sp

/-- The STREAM_END frames of the streams that an event from `s` to `t` lapped, in ascending cursor number (R146, R153). -/
def streamsLapped (s t : State) : List Frame :=
  (List.finRange 4).filterMap fun c =>
    match s.cursors[c].state, t.cursors[c].state with
    | .streaming _ _ _ _, .lapped _ => some (.streamEnd c .lapped)
    | _, _ => none

/-- A cursor at the end of an event: as it was, or lapped on the spool it was open on (R146). -/
def Cursor.sameOrLapped (c c' : Cursor) : Prop :=
  c' = c ∨ ∃ i, (∃ p, c.state = .positioned i p ∨ ∃ n f, c.state = .streaming i p n f) ∧
    c' = { state := .lapped i, inFlight := none }

/-- What an event that records may do outside the store and the block it happens in: cursors are lapped, one STREAM_END
frame for each stream lapped joins the reply queue, and classes of `raised` take occurrences. Everything else of the link, the cursors and the
notification unit is as before, and so are mode-independent settings, RSTn and the command queue. -/
structure SideEffects (raised : List ClassNo) (s t : State) : Prop where
  inReset : t.inReset = s.inReset
  chatter : t.wc = s.wc ∧ t.rc = s.rc
  pending : t.pending = s.pending
  cursors : ∀ c : CursorNo, s.cursors[c].sameOrLapped t.cursors[c]
  link : t.link = { s.link with replyQueue := s.link.replyQueue ++ streamsLapped s t }
  credit : t.notes.credit = s.notes.credit
  classes : ∀ c : ClassNo, c ∉ raised → t.notes.classes[c] = s.notes.classes[c]
  occurrences : ∀ c : ClassNo,
    t.notes.classes[c] = { s.notes.classes[c] with pendingDetail := t.notes.classes[c].pendingDetail } ∧
      (s.notes.classes[c].enable = false → t.notes.classes[c] = s.notes.classes[c])

/-- As `SideEffects`, for an event that is the taking of a request: the reply follows the STREAM_END frames (R153). -/
structure RequestEffects (raised : List ClassNo) (s t : State) (tag : Byte) (rest : List Request) (code : Byte)
    (status : Status) (body : Body) : Prop where
  inReset : t.inReset = s.inReset
  chatter : t.wc = s.wc ∧ t.rc = s.rc
  pending : t.pending = s.pending
  cursors : ∀ c : CursorNo, s.cursors[c].sameOrLapped t.cursors[c]
  link : t.link = s.link.answered tag rest (streamsLapped s t ++ [.reply tag (some code) ⟨status, body⟩ true])
  credit : t.notes.credit = s.notes.credit
  classes : ∀ c : ClassNo, c ∉ raised → t.notes.classes[c] = s.notes.classes[c]
  occurrences : ∀ c : ClassNo,
    t.notes.classes[c] = { s.notes.classes[c] with pendingDetail := t.notes.classes[c].pendingDetail } ∧
      (s.notes.classes[c].enable = false → t.notes.classes[c] = s.notes.classes[c])

/-- The ways a qualified change comes about: the command, the change, the new level, and the line just before the new
level is set (R54, R56, R57, R59, R64). -/
inductive Accepts (s : State) : Instr → Change → Bool → Line → Prop where
  | stable (l : LineNo) (pin : Bool) (hs : s.lines[l].state = .quiet) (hp : s.lines[l].pin ≠ pin)
      (hq : s.lines[l].cfg.qualify = .stable) (h0 : s.lines[l].cfg.q = 0) :
      Accepts s (.rawChange l pin) ⟨l, s.time, false, false⟩ (pin ^^ s.lines[l].cfg.invert) { s.lines[l] with pin }
  | latch (l : LineNo) (pin : Bool) (hs : s.lines[l].state = .quiet) (hp : s.lines[l].pin ≠ pin)
      (hq : s.lines[l].cfg.qualify = .latch) :
      Accepts s (.rawChange l pin) ⟨l, s.time, false, false⟩ (pin ^^ s.lines[l].cfg.invert)
        { s.lines[l] with pin, state := if s.lines[l].cfg.q = 0 then .quiet else .lockout s.lines[l].cfg.q }
  | settled (l : LineNo) (t0 : Nat) (hs : s.lines[l].state = .settling t0 0) :
      Accepts s (.settlingTimerExpiry l) ⟨l, t0, false, false⟩ s.lines[l].raw { s.lines[l] with state := .quiet }
  | late (l : LineNo) (hs : s.lines[l].state = .lockout 0) (hd : s.lines[l].raw ≠ s.lines[l].qualified) :
      Accepts s (.lockoutExpiry l) ⟨l, s.time, true, false⟩ s.lines[l].raw
        { s.lines[l] with state := .lockout s.lines[l].cfg.q }
  | released (l : LineNo) (hs : s.lines[l].state = .suppressed 0) (hd : s.lines[l].raw ≠ s.lines[l].qualified) :
      Accepts s (.releaseTimerExpiry l) ⟨l, s.time, false, true⟩ s.lines[l].raw
        { s.lines[l] with state := .quiet, chatterCount := 0 }

/-- Steps 1 and 2 of R65 ask spool `i` for the EDGE of a change of line `l`. -/
def edgeGoesTo (s : State) (l : LineNo) (i : SpoolNo) : Bool :=
  (s.lines[l].cfg.logEdges && s.lines[l].cfg.route == i) ||
    (s.lines[l].cfg.capture && s.burst.phase.open?.any fun b => b.spool == i)

/-- A record of a qualified change: its timestamp and flags are the change's (R1, R2). -/
def changeDraft (c : Change) (body : RecordBody) : Draft :=
  { body, timestamp := c.time, late := c.late, afterChatter := c.afterChatter }

/-- Spool `i` after the records of a qualified change that come before the evaluation of groups, while ARMED: the
CHATTER_END of a release, which goes to the line's route (R64), then the EDGE (R65 steps 1 and 2). -/
def changeSpool (s : State) (c : Change) (level : Bool) (i : SpoolNo) : Spool :=
  s.spools[i].appendedAll s.time
    ((if c.afterChatter && s.lines[c.line].cfg.route == i then
        [({ body := .chatterEnd c.line level true, timestamp := s.time } : Draft)] else [])
      ++ if edgeGoesTo s c.line i then [changeDraft c (.edge c.line level)] else [])

/-- The lookback ring after step 3 of R65, while ARMED: an entry of a line with the lookback flag unless a burst is OPEN,
the oldest going where 16 stand (R97). -/
def changeRing (s : State) (c : Change) (level : Bool) : List RingEntry :=
  if s.lines[c.line].cfg.lookback = true ∧ s.burst.phase.open? = none then
    (s.burst.ring ++ [(⟨c.line, level, c.time, c.late, c.afterChatter⟩ : RingEntry)]).drop (s.burst.ring.length + 1 - 16)
  else s.burst.ring

/-- What the evaluations of a qualified change find in each group (R76): the member levels after the change, whether
every member conforms, and the disposition and burst id of a trip (R78, R99). -/
structure Evaluation where
  levels : GroupNo → LineSet
  conforms : GroupNo → Bool
  disposition : GroupNo → Disposition × Option Nat

namespace Evaluation

/-- The levels and the verdicts are those of the members' qualified levels after the change (R76, R77). -/
def ofChange (e : Evaluation) (s : State) (c : Change) (level : Bool) : Prop :=
  ∀ g : GroupNo,
    (∀ m : LineNo, (e.levels g).getLsbD m.val =
      (s.groups[g].cfg.members.getLsbD m.val && (if m = c.line then level else s.lines[m].qualified))) ∧
    (e.conforms g = true ↔ ∀ m : LineNo, s.groups[g].cfg.members.getLsbD m.val = true →
      (if m = c.line then level else s.lines[m].qualified) = s.groups[g].cfg.reference.getLsbD m.val)

/-- The change is evaluated for the group (R76). -/
def covers (s : State) (c : Change) (g : GroupNo) : Bool :=
  s.groups[g].cfg.enabled && s.groups[g].cfg.members.getLsbD c.line.val

/-- The group trips (R76). -/
def trips (e : Evaluation) (s : State) (c : Change) (g : GroupNo) : Bool :=
  covers s c g && s.groups[g].state == .conforming && !e.conforms g

/-- The trip count a trip of the group leaves (R77). -/
def tripCount (s : State) (g : GroupNo) : Nat := min (s.groups[g].tripCount + 1) 65535

/-- The record the group's evaluation appends (R76, R77, R81, R83). -/
def record (e : Evaluation) (s : State) (c : Change) (g : GroupNo) : Option RecordBody :=
  if covers s c g then
    match s.groups[g].state, e.conforms g with
    | .conforming, false =>
        some (.trip g c.line (e.levels g) (tripCount s g) (e.disposition g).1 (e.disposition g).2)
    | .tripped t, true => some (.restore g c.line (e.levels g) (some (c.time - t)))
    | .tripped _, false => some (.change g c.line (e.levels g))
    | .blocked, true => some (.restore g c.line (e.levels g) none)
    | _, _ => none
  else none

/-- The group after its evaluation (R76, R77). -/
def group (e : Evaluation) (s : State) (c : Change) (g : GroupNo) : Group :=
  if covers s c g then
    match s.groups[g].state, e.conforms g with
    | .conforming, false => { s.groups[g] with state := .tripped c.time, tripCount := tripCount s g }
    | .tripped _, true => { s.groups[g] with state := .conforming }
    | .blocked, true => { s.groups[g] with state := .conforming }
    | _, _ => s.groups[g]
  else s.groups[g]

/-- Spool `i` after the records of the change and of the evaluations of `gs`, in their order, where no burst opens. -/
def spool (e : Evaluation) (s : State) (c : Change) (level : Bool) (gs : List GroupNo) (i : SpoolNo) : Spool :=
  (changeSpool s c level i).appendedAll s.time
    (gs.filterMap fun g => if s.groups[g].cfg.route = i then (e.record s c g).map (changeDraft c) else none)

/-- Spool `i` as the evaluation of group `g` finds it: the lower-numbered groups have been evaluated. -/
def spoolAt (e : Evaluation) (s : State) (c : Change) (level : Bool) (g : GroupNo) (i : SpoolNo) : Spool :=
  e.spool s c level ((List.finRange 8).take g.val) i

/-- The detail with which a trip of the group raises TRIP: the place of its record on the route, or none (R80). -/
def tripDetail (e : Evaluation) (s : State) (c : Change) (level : Bool) (g : GroupNo) : Detail :=
  .trip (BitVec.twoPow 8 g.val) 1
    ((e.record s c g).bind fun body =>
      (((e.spoolAt s c level g s.groups[g].cfg.route).append s.time (changeDraft c body)).placed.map
        fun q => (s.groups[g].cfg.route, q)))

/-- The TRIP class after every trip of the change, in ascending group number (R80). -/
def tripNotes (e : Evaluation) (s : State) (c : Change) (level : Bool) : NoteClass :=
  (List.finRange 8).foldl
    (fun k g => if e.trips s c g then k.take (e.tripDetail s c level g) else k) s.notes.classes[tripClass]

end Evaluation

/-- How the burst controller, in `phase`, takes a trip of a group with `cfg` that opens no burst, the group's route being
`sp` by then: the disposition, the burst id, and the phase after it (R99, R100, R103, R104, R106). -/
inductive TripTaken (set : BurstSettings) (cfg : GroupConfig) (sp : Spool) (time : Nat) :
    BurstPhase → Disposition × Option Nat → BurstPhase → Prop where
  | extended (b : OpenBurst) (d : Nat) (h48 : time + 1000 * set.e ≤ max48)
      (hd : d = if b.deadline < time + 1000 * set.e then
        max b.deadline (min (time + 1000 * set.e) (b.t0 + 1000 * set.m)) else b.deadline) :
      TripTaken set cfg sp time (.isOpen b) (.extended, some b.id)
        (.isOpen { b with deadline := d, timer := b.timer + (d - b.deadline) })
  | suppressed (id : Nat) (i : SpoolNo) (g : GroupNo) (timer : Nat) (hp : cfg.priority < set.p) :
      TripTaken set cfg sp time (.cooldown id i g timer) (.suppressed, none) (.cooldown id i g timer)
  | refused (phase : BurstPhase) (hp : phase = .idle ∨ ∃ id i g timer, phase = .cooldown id i g timer ∧ set.p ≤ cfg.priority)
      (hr : sp.erasing ≠ none ∨
        sp.room ((if sp.current = none then 0 else 1) + 2 + (if sp.tally = none then 0 else 1) + 1) true = false) :
      TripTaken set cfg sp time phase (.refused, none) .idle

/-- No enabled group but `only` has the line as a member. -/
def watchedOnlyBy (s : State) (l : LineNo) (only : Option GroupNo) : Prop :=
  ∀ g : GroupNo, some g ≠ only → s.groups[g].cfg.enabled = true → s.groups[g].cfg.members.getLsbD l.val = false

/-- Check 2 of R119 fails at a group, with its first fault, and the lowest disabled member for DISABLED_MEMBER. -/
inductive GroupFaulty (s : State) (g : GroupNo) : ConfigFault → Option LineNo → Prop where
  | noMembers (he : s.groups[g].cfg.enabled = true) (h : s.groups[g].cfg.members = 0) : GroupFaulty s g .noMembers none
  | disabledMember (l : LineNo) (he : s.groups[g].cfg.enabled = true)
      (hl : s.groups[g].cfg.members.getLsbD l.val = true ∧ s.lines[l].cfg.enabled = false)
      (hmin : ∀ l' : LineNo, l' < l → s.groups[g].cfg.members.getLsbD l'.val = true → s.lines[l'].cfg.enabled = true) :
      GroupFaulty s g .disabledMember (some l)
  | disabledRoute (he : s.groups[g].cfg.enabled = true) (hm : s.groups[g].cfg.members ≠ 0)
      (hl : ∀ l : LineNo, s.groups[g].cfg.members.getLsbD l.val = true → s.lines[l].cfg.enabled = true)
      (hr : s.spools[s.groups[g].cfg.route].capacity = 0) : GroupFaulty s g .disabledRoute none

/-- Check 3 of R119 fails at a group. -/
def WindowTooLong (s : State) (g : GroupNo) : Prop :=
  s.groups[g].cfg.enabled = true ∧ s.groups[g].cfg.action = .burst ∧ s.burst.settings.m < s.groups[g].cfg.w

/-- Check 4 of R119 fails at a line. -/
def LineUnrecordable (s : State) (l : LineNo) : Prop :=
  s.lines[l].cfg.enabled = true ∧ (s.lines[l].cfg.logEdges = true ∨ 0 < s.lines[l].cfg.k) ∧
    s.spools[s.lines[l].cfg.route].capacity = 0

/-- The refusals of ARM: the first check of R119 that fails, and its subject (R120). -/
inductive ArmFails (s : State) : ArmFailure → Prop where
  | noSpool (h : ∀ i : SpoolNo, s.spools[i].capacity = 0) : ArmFails s .noSpool
  | group (g : GroupNo) (f : ConfigFault) (m : Option LineNo) (h1 : ∃ i : SpoolNo, s.spools[i].capacity ≠ 0)
      (h : GroupFaulty s g f m) (hmin : ∀ g' : GroupNo, g' < g → ∀ f' m', ¬ GroupFaulty s g' f' m') :
      ArmFails s (.group g f m)
  | window (g : GroupNo) (h1 : ∃ i : SpoolNo, s.spools[i].capacity ≠ 0) (h2 : ∀ g' f' m', ¬ GroupFaulty s g' f' m')
      (h : WindowTooLong s g) (hmin : ∀ g' : GroupNo, g' < g → ¬ WindowTooLong s g') :
      ArmFails s (.window g s.groups[g].cfg.w s.burst.settings.m)
  | line (l : LineNo) (h1 : ∃ i : SpoolNo, s.spools[i].capacity ≠ 0) (h2 : ∀ g' f' m', ¬ GroupFaulty s g' f' m')
      (h3 : ∀ g', ¬ WindowTooLong s g') (h : LineUnrecordable s l)
      (hmin : ∀ l' : LineNo, l' < l → ¬ LineUnrecordable s l') :
      ArmFails s (.line l s.lines[l].cfg.route)

/-- What HOLD and DISARM leave of a spool before their MODE record: the burst open on it, if one is, is closed (R111). -/
def Spool.closedEarly (sp : Spool) (i : SpoolNo) (reason : MarkReason) (now : Nat) (phase : BurstPhase) : Spool :=
  match phase with
  | .isOpen b => if b.spool = i then sp.fill { body := .mark reason 0 (some b.id), timestamp := now } else sp
  | _ => sp

/-- The BURST_END occurrence of a burst `b` closed on spool `sp` (R113). -/
def burstEndDetail (b : OpenBurst) (sp : Spool) (pinned : Bool) : Detail :=
  .burstEnd 1 b.id b.spool (sp.current.getD sp.nextSeg) (if sp.current.isSome then sp.segCount else 0) pinned

/-- The notification unit after one occurrence of a class (R194). -/
def Notes.taking (n : Notes) (c : ClassNo) (d : Detail) : Notes := { n with classes := n.classes.set c (n.classes[c].take d) }

/-! ### Laws of the recorder -/

/-- The notification unit's law (R191, R194 to R202): credit within its cap; a disabled class holds no pending detail
and waits for no resend; a timer runs and a resend is due only while a notification is outstanding. -/
structure NotesLaw (s : State) : Prop where
  credit : s.notes.credit ≤ Config.creditCap
  disabled : ∀ c : ClassNo, s.notes.classes[c].enable = false →
    s.notes.classes[c].pendingDetail = none ∧ s.notes.classes[c].timer = none ∧ s.notes.classes[c].resendDue = false
  idle : ∀ c : ClassNo, s.notes.classes[c].outstanding = none →
    s.notes.classes[c].timer = none ∧ s.notes.classes[c].resendDue = false
  number : ∀ c : ClassNo, s.notes.classes[c].noteNumber ≤ 255
  settings : ∀ c : ClassNo, s.notes.classes[c].priority ≤ 3 ∧
    (s.notes.classes[c].timeout = 0 ∨ (10 ≤ s.notes.classes[c].timeout ∧ s.notes.classes[c].timeout ≤ 10000))

/-- The frames the link holds: the one in transmission, then the reply queue. -/
def Link.frames (l : Link) : List Frame := (l.path.map (·.frame)).toList ++ l.replyQueue

/-- The tag a frame frees at its completion (R170). -/
def Frame.freesTag : Frame → Option Byte
  | .reply tag _ _ true => some tag
  | _ => none

/-- A frame that holds a refusal slot (R179). -/
def Frame.isRefusal : Frame → Bool
  | .refusal _ _ _ => true
  | _ => false

/-- The link controller's law (R167, R177 to R181): at most 4 requests outstanding, under distinct tags; the queued ones
are those of the intake, in its order; each one replying has exactly one last reply frame waiting or in transmission;
the refusal slots held are those of the refusals waiting or in transmission; no two erases of one spool; no counter past
65535; and the gap timer, while it runs, no further past its 2 ms than a character takes (R164, log entry 8). -/
structure LinkLaw (s : State) : Prop where
  places : s.link.outstanding.length ≤ Config.outstandingPlaces
  tags : s.link.tags.Nodup
  queued : s.link.intake.map (·.tag) = (s.link.outstanding.filter fun e => e.stage == .queued).map (·.tag)
  replying : (s.link.frames.filterMap Frame.freesTag).Perm
    ((s.link.outstanding.filter fun e => e.stage == .replying).map (·.tag))
  slots : s.link.refusalSlots = (s.link.frames.filter Frame.isRefusal).length
  slotBound : s.link.refusalSlots ≤ Config.refusalSlots
  erases : ∀ i : SpoolNo, (s.link.outstanding.filter fun e => e.stage == .erasing i).length ≤ 1
  erasing : ∀ i : SpoolNo, ∀ e ∈ s.link.outstanding, e.stage = .erasing i → s.spools[i].erasing.isSome = true
  counters : ∀ k : CounterNo, s.link.counters[k] ≤ max16
  gap : ∀ g, s.link.rx.gap = some g → g ≤ Config.gapLength + s.link.speed.characterTime

/-- The modes' law (R52, R53, R74, R85, R87, R97, R98, R117, R122, R124): outside SETUP exactly the enabled lines and groups
are active, in SETUP none is; a burst or a cooldown exists only while ARMED; the lookback ring holds at most 16 entries,
and none unless ARMED with no burst open; the next burst id is 1 to 65535. -/
structure ModeLaw (s : State) : Prop where
  lines : ∀ l : LineNo, s.lines[l].state = .idle ↔ (s.mode = .setup ∨ s.lines[l].cfg.enabled = false)
  groups : ∀ g : GroupNo, s.groups[g].state = .off ↔ (s.mode = .setup ∨ s.groups[g].cfg.enabled = false)
  burst : s.burst.phase ≠ .idle → s.mode = .armed
  ringSize : s.burst.ring.length ≤ Config.ringSize
  ring : s.burst.ring ≠ [] → s.mode = .armed ∧ s.burst.phase.open? = none
  nextId : 1 ≤ s.burst.nextId ∧ s.burst.nextId ≤ max16

/-- The qualifier's law (R52 to R58, R62): an IDLE or QUIET line's qualified level is its raw level, a SETTLING line is
STABLE and its levels differ, a line in LOCKOUT is LATCH; no chatter is counted on an IDLE line and no window runs on
an IDLE or a SUPPRESSED one. -/
structure LineLaw (s : State) : Prop where
  level : ∀ l : LineNo, s.lines[l].state = .idle ∨ s.lines[l].state = .quiet → s.lines[l].qualified = s.lines[l].raw
  settling : ∀ l : LineNo, ∀ t0 t, s.lines[l].state = .settling t0 t →
    s.lines[l].cfg.qualify = .stable ∧ s.lines[l].qualified ≠ s.lines[l].raw
  lockout : ∀ l : LineNo, ∀ t, s.lines[l].state = .lockout t → s.lines[l].cfg.qualify = .latch
  idle : ∀ l : LineNo, s.lines[l].state = .idle → s.lines[l].chatterCount = 0 ∧ s.lines[l].window = none
  suppressed : ∀ l : LineNo, ∀ t, s.lines[l].state = .suppressed t → s.lines[l].window = none

/-- The group unit's law: outside SETUP every member of an enabled group is an enabled line (R85, R119), and while ARMED
an enabled group is CONFORMING exactly when every member stands at its reference level (R75). -/
structure GroupLaw (s : State) : Prop where
  members : s.mode ≠ .setup → ∀ g : GroupNo, s.groups[g].cfg.enabled = true →
    ∀ l : LineNo, s.groups[g].cfg.members.getLsbD l.val = true → s.lines[l].cfg.enabled = true
  agrees : s.mode = .armed → ∀ g : GroupNo, s.groups[g].cfg.enabled = true →
    (s.groups[g].state = .conforming ↔
      ∀ l : LineNo, s.groups[g].cfg.members.getLsbD l.val = true →
        s.lines[l].qualified = s.groups[g].cfg.reference.getLsbD l.val)

/-- A spool's held records carry consecutive sequence numbers up to the one before its next sequence (R13). -/
def Spool.consecutive (sp : Spool) : Prop :=
  ∀ k, ∀ h : k < sp.held.length, sp.held[k].seq + (sp.held.length - k) = sp.nextSeq

/-- Every spool numbers its held records consecutively (R13). -/
def SequenceLaw (s : State) : Prop := ∀ i : SpoolNo, s.spools[i].consecutive

/-- Every spool's pin table holds at most 4 segments, ascending, each with a held record (R32). -/
def PinLaw (s : State) : Prop :=
  ∀ i : SpoolNo, s.spools[i].pins.length ≤ Config.pinTableSize ∧ s.spools[i].pins.Pairwise (· < ·) ∧
    ∀ p ∈ s.spools[i].pins, ∃ r ∈ s.spools[i].held, r.seg = p

/-- The capacity law (R7, R10, R96): capacities are 0 or multiples of 64 and together at most 8192; held records and
reservation never exceed a spool's capacity; a slot is reserved exactly on the spool of an open burst, and neither is
on a spool being erased. -/
structure CapacityLaw (s : State) : Prop where
  sizes : ∀ i : SpoolNo, s.spools[i].capacity % 64 = 0
  total : (s.spools.toList.map Spool.capacity).sum ≤ Config.recordSlots
  threshold : ∀ i : SpoolNo, s.spools[i].threshold ≤ s.spools[i].capacity
  bound : ∀ i : SpoolNo, s.spools[i].held.length + s.spools[i].reservation.toNat ≤ s.spools[i].capacity
  reserved : ∀ i : SpoolNo, s.spools[i].reservation = true ↔ ∃ b, s.burst.phase = .isOpen b ∧ b.spool = i
  erasing : ∀ i : SpoolNo, s.spools[i].erasing.isSome = true → s.spools[i].reservation = false

/-- The spool and position a cursor is open at (R133): none when CLOSED or LAPPED. -/
def Cursor.place? (c : Cursor) : Option (SpoolNo × Nat) :=
  match c.state with
  | .positioned i p => some (i, p)
  | .streaming i p _ _ => some (i, p)
  | _ => none

/-- The cursor unit's law (R42, R134): a POSITIONED or STREAMING cursor stands on a held record of its spool or at END,
and its spool is not being erased. -/
def CursorLaw (s : State) : Prop :=
  ∀ c : CursorNo, ∀ i p, s.cursors[c].place? = some (i, p) →
    (s.spools[i].holds p = true ∨ p = s.spools[i].nextSeq) ∧ s.spools[i].erasing = none

end Sys2Proof.Machine
end

