-- ==== Sys2Proof/Certificates/Slice0/Obligations.lean ====
section
/-! DEFINITION. The statements for the provers, from the numbered rules of the manual. `s.answered tag rest code st body`
is `s` with the request answered and nothing else changed; the other words stand in Safety.lean. -/

open Sys2Proof Sys2Proof.Machine

/-! ### The step, time, resets -/

/-- A step takes the command at the front of the queue with the queue's rest. -/
def Obligations.StepTakesFrontCommand : Prop :=
  ∀ (s : State) (c : Instr) (rest : List Instr), s.pending = c :: rest → step s = exec c { s with pending := rest }

/-- The model's choices: what a step does on an empty queue (DESIGN CHOICE, log entry 3, and for the gap timer 8), and
that a command whose event cannot occur changes nothing (DESIGN CHOICE, log entry 2; for timers DEDUCED, log entry 4, and
for a transmission 7). Where nothing is due, 1 µs passes: the time base counts up to 2^48 - 1, and every running timer,
erase and transmission goes on (R68, R159, R164). -/
def Obligations.IdleStepAndVoidCommands : Prop :=
  ∀ s : State,
    (s.pending = [] → s.inReset = true → step s = .next s) ∧
    (s.pending = [] → s.inReset = false →
      (∀ r rest, s.link.intake = r :: rest → step s = exec r.row s) ∧
      (s.link.intake = [] → canSend s = true → step s = exec .arbiterChoice s) ∧
      (∀ c, ownEvent s = some c → step s = exec c s) ∧
      (ownEvent s = none →
        (∀ l : LineNo, (∀ t0, s.lines[l].state ≠ .settling t0 0) ∧ s.lines[l].state ≠ .lockout 0 ∧
          s.lines[l].state ≠ .suppressed 0 ∧ s.lines[l].window ≠ some 0) ∧
        (∀ b, s.burst.phase = .isOpen b → b.timer ≠ 0) ∧ (∀ id i g, s.burst.phase ≠ .cooldown id i g 0) ∧
        (∀ n : ClassNo, s.notes.classes[n].timer ≠ some 0) ∧ (∀ i : SpoolNo, s.spools[i].erasing ≠ some 0) ∧
        (∀ p, s.link.path = some p → p.left ≠ 0) ∧
        (∀ g, s.link.rx.gap = some g → g < 2000 + (10 * 1000000 + s.link.speed.baud - 1) / s.link.speed.baud) ∧
        ∃ t, step s = .next t ∧ t.time = min (s.time + 1) max48 ∧
          (∀ l : LineNo, t.lines[l] = { s.lines[l] with
            state := match s.lines[l].state with
              | .settling t0 n => .settling t0 (n - 1)
              | .lockout n => .lockout (n - 1)
              | .suppressed n => .suppressed (n - 1)
              | st => st,
            window := s.lines[l].window.map (· - 1) }) ∧
          (∀ i : SpoolNo, t.spools[i] = { s.spools[i] with erasing := s.spools[i].erasing.map (· - 1) }) ∧
          t.burst = { s.burst with phase := match s.burst.phase with
            | .isOpen b => .isOpen { b with timer := b.timer - 1 }
            | .cooldown id i g n => .cooldown id i g (n - 1)
            | .idle => .idle } ∧
          t.notes.credit = s.notes.credit ∧
          (∀ n : ClassNo, t.notes.classes[n] =
            { s.notes.classes[n] with timer := s.notes.classes[n].timer.map (· - 1) }) ∧
          t.link = { s.link with
            rx := match s.link.rx with
              | .length g => .length (g + 1)
              | .body len got crc g => .body len got crc (g + 1)
              | .check got crc first g => .check got crc first (g + 1)
              | rx => rx,
            path := s.link.path.map fun p => { p with left := p.left - s.link.speed.baud } } ∧
          t = { s with
            time := t.time, lines := t.lines, spools := t.spools, burst := t.burst, notes := t.notes,
            link := t.link })) ∧
    (∀ c : Instr, Instr.isRequest c = true → (∀ r rest, s.link.intake = r :: rest → r.row ≠ c) → exec c s = .next s) ∧
    (∀ (l : LineNo) (left : Nat), 0 < left →
      (∀ t0, s.lines[l].state = .settling t0 left → exec (.settlingTimerExpiry l) s = .next s) ∧
      (s.lines[l].state = .lockout left → exec (.lockoutExpiry l) s = .next s) ∧
      (s.lines[l].state = .suppressed left → exec (.releaseTimerExpiry l) s = .next s) ∧
      (s.lines[l].window = some left → exec (.chatterWindowExpiry l) s = .next s)) ∧
    (∀ p, s.link.path = some p → 0 < p.left → exec .transmissionCompletion s = .next s) ∧
    (∀ g, s.link.rx.gap = some g → g < 2000 → exec .gapTimeout s = .next s) ∧
    (∀ l : LineNo, exec (.rawChange l s.lines[l].pin) s = .next s)

/-- The store after pin reset and power-on, whatever stood before (R27). -/
def Obligations.PinResetStore : Prop :=
  ∀ (s : State) (pins : LineSet) (spd1 spd0 : Bool) (c : Instr),
    c = .pinReset pins spd1 spd0 ∨ c = .powerOn pins spd1 spd0 →
    ∃ t, exec c s = .next t ∧
      t.spools[(0 : SpoolNo)] =
        { capacity := 8192, policy := .wrap, threshold := 7168, held := [], nextSeq := 1, nextSeg := 1, current := none,
          segCount := 0, burstSeg := false, reservation := false, tally := none, totalLost := 0, nearFull := .below,
          erasing := none, pins := [] } ∧
      ∀ i : SpoolNo, i ≠ 0 → t.spools[i] =
        { capacity := 0, policy := .halt, threshold := 0, held := [], nextSeq := 1, nextSeg := 1, current := none,
          segCount := 0, burstSeg := false, reservation := false, tally := none, totalLost := 0, nearFull := .below,
          erasing := none, pins := [] }

/-- Every other block after pin reset and power-on. -/
def Obligations.PinResetBlocks : Prop :=
  ∀ (s : State) (pins : LineSet) (spd1 spd0 : Bool) (c : Instr),
    c = .pinReset pins spd1 spd0 ∨ c = .powerOn pins spd1 spd0 →
    ∃ t, exec c s = .next t ∧ t.inReset = false ∧ t.mode = .setup ∧ t.time = 0 ∧ t.wc = 1000 ∧ t.rc = 1000 ∧
      t.pending = s.pending ∧
      (∀ l : LineNo, t.lines[l] =
        { cfg := { enabled := false, invert := false, qualify := .stable, q := 0, k := 0, logEdges := false, route := 0,
                   lookback := false, capture := false },
          pin := pins.getLsbD l.val, qualified := pins.getLsbD l.val, state := .idle, chatterCount := 0,
          window := none }) ∧
      (∀ g : GroupNo, t.groups[g] =
        { cfg := { enabled := false, members := 0, reference := 0, priority := 0, route := 0, action := .log, w := 1000,
                   pinOnBurst := false },
          state := .off, tripCount := 0 }) ∧
      t.burst = { settings := { e := 0, m := 10000, h := 0, tl := 0, p := 4 }, phase := .idle, nextId := 1, ring := [] } ∧
      (∀ k : CursorNo, t.cursors[k] = { state := .closed, inFlight := none }) ∧
      (∀ n : ClassNo, t.notes.classes[n] =
        { enable := false, priority := 0, timeout := 0, pendingDetail := none, outstanding := none, noteNumber := 0,
          timer := none, resendDue := false }) ∧
      t.notes.credit = 0 ∧ attnAsserted t = false ∧
      (∀ k : CounterNo, t.link.counters[k] = 0) ∧
      t.link.rx = .hunt ∧ t.link.intake = [] ∧ t.link.outstanding = [] ∧ t.link.replyQueue = [] ∧
      t.link.refusalSlots = 0 ∧ t.link.path = none ∧ t.link.lastServed = 3 ∧
      t.link.speed.baud =
        if spd1 then (if spd0 then 3000000 else 1000000) else (if spd0 then 460800 else 115200)

/-- RSTn takes effect low (R131): everything in progress is abandoned, the time base stands at 0, ATTN is negated, and
from then until the release the recorder takes no event. The model's choices: what R131 does not name is as before
(DESIGN CHOICE, log entry 12), but for the break flag `breakTaken`, which R131 does not name either and which is cleared
(DESIGN CHOICE, log entry 15). -/
def Obligations.ResetHeldLow : Prop :=
  (∀ s : State, ∃ t, exec .rstnLow s = .next t ∧ attnAsserted t = false ∧
    (∀ i : SpoolNo, t.spools[i] = { s.spools[i] with erasing := none }) ∧
    t = { s with
      inReset := true, time := 0, spools := t.spools,
      link := { s.link with rx := .hunt, breakTaken := false, intake := [], outstanding := [], replyQueue := [],
                            refusalSlots := 0, path := none } }) ∧
  (∀ (s : State) (c : Instr), s.inReset = true → Instr.isReset c = false → exec c s = .next s)

/-! ### The taking of requests -/

/-- Checks 1 and 2 of R182: a request with no code, an unknown code or a wrong length is refused BAD_REQUEST; one whose
spool, cursor, line, group or class number or another field is out of range is refused BAD_ARGUMENT, in every mode. And
RELEASE, ERASE, OPEN_CURSOR and LIST_SEGMENTS on a disabled or an ERASING spool (R29, R39, R44, R45, R136, R144); the
more indication of an ERASING spool's list is a free value (log entry 14), clear where no segment could follow. -/
def Obligations.RequestsFailingChecksRefused : Prop :=
  ∀ (s : State) (tag : Byte) (rest : List Request), s.inReset = false →
    (∀ payload : List Byte, s.link.intake = ⟨tag, payload⟩ :: rest →
      (∀ e ∈ catalogue, payload.head? = some e.1 → payload.length ≠ e.2.1) →
      exec .badRequestTaken s = .next { s with
        link := s.link.answered tag rest [.reply tag payload.head? ⟨.badRequest, .empty⟩ true] }) ∧
    (∀ (code n : Byte) (fields : List Byte) (row : Instr) (limit : Nat),
      s.link.intake = ⟨tag, code :: n :: fields⟩ :: rest → Request.row ⟨tag, code :: n :: fields⟩ = row →
      ((row ∈ [.cut, .release, .pin, .unpin, .erase, .getSpool, .setSpool, .listSegments] ∧ limit = 4) ∨
        (row ∈ [.openCursor, .closeCursor, .read, .space, .skip, .stream, .stopStream] ∧ limit = 4) ∨
        (row = .setLine ∧ limit = 32) ∨ (row ∈ [.setGroup, .setReference] ∧ limit = 8) ∨
        (row ∈ [.setNote, .ackNote] ∧ limit = 6)) →
      limit ≤ n.toNat →
      exec row s = .next (s.answered tag rest code .badArgument .empty)) ∧
    (∀ (row : Instr) (payload : List Byte), s.link.intake = ⟨tag, payload⟩ :: rest → BadField s row payload →
      exec row s = .next (s.answered tag rest (payload.headD 0) .badArgument .empty)) ∧
    (∀ (i : SpoolNo) (row : Instr) (code : Byte) (payload : List Byte), s.link.intake = ⟨tag, payload⟩ :: rest →
      NamesSpool i row code payload →
      (s.spools[i].capacity = 0 → exec row s = .next (s.answered tag rest code .spoolDisabled .empty)) ∧
      (s.spools[i].capacity ≠ 0 → s.spools[i].erasing ≠ none → row ≠ .listSegments →
        exec row s = .next (s.answered tag rest code .spoolBusy .empty))) ∧
    (∀ (i : SpoolNo) (start count : Nat), start ≤ max32 → 1 ≤ count → count ≤ 8 →
      s.link.intake = ⟨tag, Payload.listSegments i start count⟩ :: rest → s.spools[i].capacity ≠ 0 →
      s.spools[i].erasing ≠ none →
      ∃ more : Bool, exec .listSegments s = .next (s.answered tag rest 0x47 .ok (.segments true [] more)) ∧
        ((∀ r ∈ s.spools[i].held, r.seg < start) → more = false))

/-- Requests that report and change nothing: GET_TIME (R70), IDENTIFY (R188), and GET_STATUS with the mode, every line,
every group and the burst controller (R186). -/
def Obligations.ReportsChangeNothing : Prop :=
  ∀ (s : State) (tag : Byte) (rest : List Request), s.inReset = false →
    (s.link.intake = ⟨tag, [0x21]⟩ :: rest → exec .getTime s = .next (s.answered tag rest 0x21 .ok (.time s.time))) ∧
    (s.link.intake = ⟨tag, [0x62]⟩ :: rest →
      exec .identify s = .next (s.answered tag rest 0x62 .ok (.identify s.link.speed)) ∧
        (Body.identify s.link.speed).bytes =
          leBytes 2 3208 ++ [1, 32, 8, 4] ++ leBytes 2 8192 ++ [32, 4, 4, 8, 6, 4, 2, 6, 8, 16]
            ++ leBytes 4 s.link.speed.baud) ∧
    (s.link.intake = ⟨tag, [0x60]⟩ :: rest →
      ∃ r : StatusReport, exec .getStatus s = .next (s.answered tag rest 0x60 .ok (.status r)) ∧ r.mode = s.mode ∧
        (∀ l : LineNo, r.raw.getLsbD l.val = (s.lines[l].pin ^^ s.lines[l].cfg.invert) ∧
          r.qualified.getLsbD l.val = s.lines[l].qualified ∧ r.lineStates[l.val]? = some s.lines[l].state.code) ∧
        (∀ g : GroupNo, r.groups[g.val]? = some (s.groups[g].state, s.groups[g].cfg)) ∧ r.phase = s.burst.phase)

/-- GET_SPOOL reports the spool, in every mode, whatever its erase state and capacity, and changes nothing; a spool number
above 3 is refused BAD_ARGUMENT (R26). -/
def Obligations.SpoolReported : Prop :=
  ∀ (s : State) (tag n : Byte) (rest : List Request), s.inReset = false → s.link.intake = ⟨tag, [0x35, n]⟩ :: rest →
    (3 < n.toNat → exec .getSpool s = .next (s.answered tag rest 0x35 .badArgument .empty)) ∧
    ∀ i : SpoolNo, n.toNat = i.val → ∃ r : SpoolReport, exec .getSpool s = .next (s.answered tag rest 0x35 .ok (.spool r)) ∧
      (r.capacity, r.policy, r.threshold) = (s.spools[i].capacity, s.spools[i].policy, s.spools[i].threshold) ∧
      (r.heldCount, r.reservation) = (s.spools[i].held.length, s.spools[i].reservation) ∧
      r.free = s.spools[i].capacity - (s.spools[i].held.length + s.spools[i].reservation.toNat) ∧
      r.ends.map (·.1) = s.spools[i].held.head?.map (·.seq) ∧ r.ends.map (·.2) = s.spools[i].held.getLast?.map (·.seq) ∧
      (r.nextSeq, r.nextSeg) = (s.spools[i].nextSeq, s.spools[i].nextSeg) ∧
      r.segOpen = s.spools[i].current.isSome ∧ r.current.map (·.1) = s.spools[i].current ∧
      (∀ p, r.current = some p → p.2 = s.spools[i].segCount) ∧ r.burstSeg = s.spools[i].burstSeg ∧
      r.tallyCount = (s.spools[i].tally.map (·.count)).getD 0 ∧
      r.lostTimes = s.spools[i].tally.map (fun t => (t.first, t.last)) ∧
      (r.totalLost, r.nearFull, r.erasing, r.pins)
        = (s.spools[i].totalLost, s.spools[i].nearFull, s.spools[i].erasing.isSome, s.spools[i].pins)

/-- GET_COUNTERS reports every count, and with its clear option sets them to 0 after reporting; another option is refused
BAD_ARGUMENT (R187). -/
def Obligations.CountersReportedAndCleared : Prop :=
  ∀ (s : State) (tag n : Byte) (rest : List Request), s.inReset = false → s.link.intake = ⟨tag, [0x61, n]⟩ :: rest →
    (1 < n.toNat → exec .getCounters s = .next (s.answered tag rest 0x61 .badArgument .empty)) ∧
    ∀ clear : Bool, n = (if clear then 1 else 0) → ∃ t, exec .getCounters s = .next (t.answered tag rest 0x61 .ok
        (.counters s.link.counters.toList (s.spools.toList.map (·.totalLost)) (s.groups.toList.map (·.tripCount)) clear)) ∧
      (clear = false → t = s) ∧
      (clear = true →
        (∀ k : CounterNo, t.link.counters[k] = 0) ∧
        (∀ i : SpoolNo, t.spools[i] = { s.spools[i] with totalLost := 0 }) ∧
        (∀ g : GroupNo, t.groups[g] = { s.groups[g] with tripCount := 0 }) ∧
        t = { s with link := { s.link with counters := t.link.counters }, spools := t.spools, groups := t.groups })

/-! ### Modes -/

/-- A validated ARM (R121): lines, groups, one MODE record to each enabled spool, and the BLOCKED groups in the reply. -/
def Obligations.ArmCarriedOut : Prop :=
  ∀ (s : State) (tag : Byte) (rest : List Request), s.inReset = false → s.link.intake = ⟨tag, [0x01]⟩ :: rest →
    s.mode = .setup → (∀ f, ¬ ArmFails s f) →
    ∃ t blocked, exec .arm s = .next t ∧ t.mode = .armed ∧ t.time = s.time ∧ t.burst = s.burst ∧
      (∀ l : LineNo, t.lines[l] =
        if s.lines[l].cfg.enabled then
          { s.lines[l] with state := .quiet, qualified := s.lines[l].raw, chatterCount := 0, window := none }
        else s.lines[l]) ∧
      (∀ g : GroupNo, s.groups[g].cfg.enabled = false → t.groups[g] = s.groups[g]) ∧
      (∀ g : GroupNo, s.groups[g].cfg.enabled = true →
        ((∀ l : LineNo, s.groups[g].cfg.members.getLsbD l.val = true →
            s.lines[l].raw = s.groups[g].cfg.reference.getLsbD l.val) →
          t.groups[g] = { s.groups[g] with state := .conforming }) ∧
        ((∃ l : LineNo, s.groups[g].cfg.members.getLsbD l.val = true ∧
            s.lines[l].raw ≠ s.groups[g].cfg.reference.getLsbD l.val) →
          t.groups[g] = { s.groups[g] with state := .blocked })) ∧
      (∀ i : SpoolNo, t.spools[i] = Spool.atEventEnd s.spools[i]
        (s.spools[i].appended s.time { body := .mode .armed .arm, timestamp := s.time })) ∧
      (∀ g : GroupNo, blocked.getLsbD g.val = decide (t.groups[g].state = .blocked)) ∧
      RequestEffects [lossClass, nearFullClass] s t tag rest 0x01 .ok (.armed .armed blocked)

/-- A mode request in a mode its row does not give is refused WRONG_MODE with the present mode, and an ARM that fails
validation CONFIG_INVALID with the first check of R119 that fails and its subject; nothing changes (R118 to R120). -/
def Obligations.ModeRequestRefused : Prop :=
  ∀ (s : State) (tag : Byte) (rest : List Request), s.inReset = false →
    (s.mode ≠ .setup → s.link.intake = ⟨tag, [0x01]⟩ :: rest →
      exec .arm s = .next (s.answered tag rest 0x01 .wrongMode (.mode s.mode))) ∧
    (s.mode ≠ .armed → s.link.intake = ⟨tag, [0x02]⟩ :: rest →
      exec .hold s = .next (s.answered tag rest 0x02 .wrongMode (.mode s.mode))) ∧
    (s.mode ≠ .hold → s.link.intake = ⟨tag, [0x03]⟩ :: rest →
      exec .resume s = .next (s.answered tag rest 0x03 .wrongMode (.mode s.mode))) ∧
    (s.mode = .setup → s.link.intake = ⟨tag, [0x04]⟩ :: rest →
      exec .disarm s = .next (s.answered tag rest 0x04 .wrongMode (.mode s.mode))) ∧
    (∀ f, s.mode = .setup → s.link.intake = ⟨tag, [0x01]⟩ :: rest → ArmFails s f →
      exec .arm s = .next (s.answered tag rest 0x01 .configInvalid (.configInvalid f)))

/-- HOLD taken in ARMED, DISARM taken in ARMED or HOLD (R122, R124): the burst closed with its MARK and BURST_END raised,
no cooldown, an empty ring; DISARM idles lines and groups; then one MODE record to each enabled spool. (What level an
IDLE line then has: `StepKeepsLevelLaws`.) -/
def Obligations.HoldAndDisarmCarriedOut : Prop :=
  ∀ (s : State) (tag : Byte) (rest : List Request) (c : Instr) (code : Byte) (mode : Mode) (cause : ModeCause)
    (reason : MarkReason), s.inReset = false → s.link.intake = ⟨tag, [code]⟩ :: rest →
    ((c, code, mode, cause, reason) = (.hold, 0x02, .hold, .hold, .held) ∧ s.mode = .armed) ∨
      ((c, code, mode, cause, reason) = (.disarm, 0x04, .setup, .disarm, .disarmed) ∧ s.mode ≠ .setup) →
    ∃ t, exec c s = .next t ∧ t.mode = mode ∧ t.time = s.time ∧
      t.burst = { s.burst with phase := .idle, ring := [] } ∧
      (∀ l : LineNo, t.lines[l] =
        if mode = .setup then
          { s.lines[l] with state := .idle, qualified := t.lines[l].qualified, chatterCount := 0, window := none }
        else s.lines[l]) ∧
      (∀ g : GroupNo, t.groups[g] = if mode = .setup then { s.groups[g] with state := .off } else s.groups[g]) ∧
      (∀ i : SpoolNo, t.spools[i] = Spool.atEventEnd s.spools[i]
        ((s.spools[i].closedEarly i reason s.time s.burst.phase).appended s.time
          { body := .mode mode cause, timestamp := s.time })) ∧
      t.notes.classes[burstEndClass] =
        (match s.burst.phase with
         | .isOpen b => s.notes.classes[burstEndClass].take (burstEndDetail b s.spools[b.spool]
             (s.spools[b.spool].pins.contains (s.spools[b.spool].current.getD s.spools[b.spool].nextSeg)))
         | _ => s.notes.classes[burstEndClass]) ∧
      RequestEffects [burstEndClass, lossClass, nearFullClass] s t tag rest code .ok (.mode mode)

/-- RESUME taken in HOLD (R123): every enabled group set from the levels as they stand, one MODE record to each enabled
spool; lines and burst controller untouched. -/
def Obligations.ResumeCarriedOut : Prop :=
  ∀ (s : State) (tag : Byte) (rest : List Request), s.inReset = false → s.link.intake = ⟨tag, [0x03]⟩ :: rest →
    s.mode = .hold →
    ∃ t, exec .resume s = .next t ∧ t.mode = .armed ∧ t.time = s.time ∧ t.burst = s.burst ∧ t.lines = s.lines ∧
      (∀ g : GroupNo, s.groups[g].cfg.enabled = false → t.groups[g] = s.groups[g]) ∧
      (∀ g : GroupNo, s.groups[g].cfg.enabled = true →
        ((∀ l : LineNo, s.groups[g].cfg.members.getLsbD l.val = true →
            s.lines[l].qualified = s.groups[g].cfg.reference.getLsbD l.val) →
          t.groups[g] = { s.groups[g] with state := .conforming }) ∧
        ((∃ l : LineNo, s.groups[g].cfg.members.getLsbD l.val = true ∧
            s.lines[l].qualified ≠ s.groups[g].cfg.reference.getLsbD l.val) →
          t.groups[g] = { s.groups[g] with state := .blocked })) ∧
      (∀ i : SpoolNo, t.spools[i] = Spool.atEventEnd s.spools[i]
        (s.spools[i].appended s.time { body := .mode .armed .resume, timestamp := s.time })) ∧
      RequestEffects [lossClass, nearFullClass] s t tag rest 0x03 .ok (.mode .armed)

/-- Soft RESET in any mode (R128 to R130): what it clears, and that everything else is kept. Where a burst was open, its
reservation is dropped and its segment left unclosed. (What level an IDLE line then has: `StepKeepsLevelLaws`.) -/
def Obligations.SoftResetCarriedOut : Prop :=
  ∀ (s : State) (tag : Byte) (rest : List Request), s.inReset = false → s.link.intake = ⟨tag, [0x05]⟩ :: rest →
    ∃ t, exec .reset s = .next t ∧
      (∀ l : LineNo, t.lines[l] =
        { s.lines[l] with state := .idle, qualified := t.lines[l].qualified, chatterCount := 0, window := none }) ∧
      (∀ g : GroupNo, t.groups[g] = { s.groups[g] with state := .off }) ∧
      (∀ i : SpoolNo, t.spools[i] =
        match s.burst.phase with
        | .isOpen b =>
            if b.spool = i then
              Spool.atEventEnd s.spools[i] { s.spools[i] with reservation := false, current := none, burstSeg := false }
            else s.spools[i]
        | _ => s.spools[i]) ∧
      (∀ k : CursorNo, t.cursors[k] = { state := .closed, inFlight := none }) ∧
      (∀ n : ClassNo, t.notes.classes[n] =
        { s.notes.classes[n] with pendingDetail := none, outstanding := none, timer := none, resendDue := false }) ∧
      attnAsserted t = false ∧
      t = { s with
        mode := .setup, lines := t.lines, groups := t.groups, spools := t.spools, cursors := t.cursors,
        burst := { s.burst with phase := .idle, ring := [] },
        notes := { classes := t.notes.classes, credit := 0 },
        link := Link.answered { s.link with replyQueue := s.link.replyQueue.filter fun f => !f.isStreamEnd } tag rest
          [.reply tag (some 0x05) ⟨.ok, .empty⟩ true] }

/-! ### Configuration -/

/-- SET_LINE, SET_CHATTER, SET_GROUP and SET_BURST with fields in range (R49, R50, R73, R94): stored whole in SETUP,
refused WRONG_MODE outside it; an IDLE line's qualified level follows its raw level (R52), and the reference levels of
non-members are stored as 0. SET_CHATTER and SET_BURST out of range: refused BAD_ARGUMENT in every mode. -/
def Obligations.SetupSettingsStored : Prop :=
  ∀ (s : State) (tag : Byte) (rest : List Request), s.inReset = false →
    (∀ (l : LineNo) (cfg : LineConfig), cfg.q ≤ 65535 → cfg.k ≤ 255 →
      s.link.intake = ⟨tag, Payload.setLine l cfg⟩ :: rest →
      exec .setLine s = .next (if s.mode = .setup then
        State.answered { s with lines := s.lines.set l { s.lines[l] with
            cfg, qualified := if s.lines[l].state = .idle then s.lines[l].pin ^^ cfg.invert else s.lines[l].qualified }
          } tag rest 0x10 .ok .empty
        else s.answered tag rest 0x10 .wrongMode (.mode s.mode))) ∧
    (∀ wc rc : Nat, 1 ≤ wc → wc ≤ 65535 → 10 ≤ rc → rc ≤ 65535 →
      s.link.intake = ⟨tag, Payload.setChatter wc rc⟩ :: rest →
      exec .setChatter s = .next (if s.mode = .setup then State.answered { s with wc, rc } tag rest 0x11 .ok .empty
        else s.answered tag rest 0x11 .wrongMode (.mode s.mode))) ∧
    (∀ wc rc : Nat, wc ≤ 65535 → rc ≤ 65535 → wc = 0 ∨ rc < 10 → s.link.intake = ⟨tag, Payload.setChatter wc rc⟩ :: rest →
      exec .setChatter s = .next (s.answered tag rest 0x11 .badArgument .empty)) ∧
    (∀ b : BurstSettings, b.e ≤ 60000 → 1 ≤ b.m → b.m ≤ 600000 → b.h ≤ 60000 → b.tl ≤ 1000 → b.p ≤ 4 →
      s.link.intake = ⟨tag, Payload.setBurst b⟩ :: rest →
      exec .setBurst s = .next (if s.mode = .setup then
        State.answered { s with burst := { s.burst with settings := b } } tag rest 0x15 .ok .empty
        else s.answered tag rest 0x15 .wrongMode (.mode s.mode))) ∧
    (∀ b : BurstSettings, b.e ≤ 65535 → b.m ≤ 4294967295 → b.h ≤ 65535 → b.tl ≤ 65535 → b.p ≤ 255 →
      60000 < b.e ∨ b.m = 0 ∨ 600000 < b.m ∨ 60000 < b.h ∨ 1000 < b.tl ∨ 4 < b.p →
      s.link.intake = ⟨tag, Payload.setBurst b⟩ :: rest →
      exec .setBurst s = .next (s.answered tag rest 0x15 .badArgument .empty)) ∧
    (∀ (g : GroupNo) (cfg : GroupConfig), cfg.priority ≤ 3 → 1 ≤ cfg.w → cfg.w ≤ 60000 →
      s.link.intake = ⟨tag, Payload.setGroup g cfg⟩ :: rest →
      exec .setGroup s = .next (if s.mode = .setup then
        State.answered { s with groups := s.groups.set g { s.groups[g] with
            cfg := { cfg with reference := cfg.reference &&& cfg.members } } } tag rest 0x12 .ok .empty
        else s.answered tag rest 0x12 .wrongMode (.mode s.mode)))

/-- SET_REFERENCE (R88, R89): the members' levels are stored in every mode, without evaluation unless the recorder is
ARMED and the group enabled; then the group becomes CONFORMING or BLOCKED and a REFERENCE record is appended. -/
def Obligations.SetReferenceCarriedOut : Prop :=
  ∀ (s : State) (tag : Byte) (rest : List Request) (g : GroupNo) (levels : LineSet), s.inReset = false →
    s.link.intake = ⟨tag, Payload.setReference g levels⟩ :: rest →
    (¬ (s.mode = .armed ∧ s.groups[g].cfg.enabled = true) →
      exec .setReference s = .next (State.answered { s with groups := s.groups.set g { s.groups[g] with
          cfg := { s.groups[g].cfg with reference := levels &&& s.groups[g].cfg.members } } } tag rest 0x13 .ok
            .empty)) ∧
    (s.mode = .armed ∧ s.groups[g].cfg.enabled = true →
      ∃ t st, exec .setReference s = .next t ∧
        ((∀ l : LineNo, s.groups[g].cfg.members.getLsbD l.val = true → s.lines[l].qualified = levels.getLsbD l.val) →
          st = .conforming) ∧
        ((∃ l : LineNo, s.groups[g].cfg.members.getLsbD l.val = true ∧ s.lines[l].qualified ≠ levels.getLsbD l.val) →
          st = .blocked) ∧
        t.mode = s.mode ∧ t.time = s.time ∧ t.lines = s.lines ∧ t.burst = s.burst ∧
        t.groups = s.groups.set g { s.groups[g] with
          cfg := { s.groups[g].cfg with reference := levels &&& s.groups[g].cfg.members }, state := st } ∧
        (∀ i : SpoolNo, t.spools[i] =
          if s.groups[g].cfg.route = i then
            Spool.atEventEnd s.spools[i] (s.spools[i].appended s.time
              { body := .reference g (levels &&& s.groups[g].cfg.members) st, timestamp := s.time })
          else s.spools[i]) ∧
        RequestEffects [lossClass, nearFullClass] s t tag rest 0x13 .ok (.groupState st))

/-- SET_SPOOL with fields in range (R7 to R9): carried out in SETUP on a spool whose capacity stays or which is empty and
not ERASING, and outside SETUP where only the threshold differs; otherwise refused. Near-full is compared at once. -/
def Obligations.SetSpoolCarriedOut : Prop :=
  ∀ (s : State) (tag : Byte) (rest : List Request) (i : SpoolNo) (capacity : Nat) (policy : Policy) (threshold : Nat),
    s.inReset = false → s.link.intake = ⟨tag, Payload.setSpool i capacity policy threshold⟩ :: rest →
    capacity % 64 = 0 → threshold ≤ capacity →
    capacity + (((List.finRange 4).filter (· ≠ i)).map fun j => s.spools[j].capacity).sum ≤ 8192 →
    exec .setSpool s = .next (
      let sp := s.spools[i]
      let changes : Bool := capacity != sp.capacity
      let nf : NearFull :=
        if threshold = 0 ∨ sp.held.length + sp.reservation.toNat < threshold then .below else .above
      if s.mode = .setup ∧ changes = true ∧ (sp.held ≠ [] ∨ sp.erasing ≠ none) then
        s.answered tag rest 0x14 .spoolNotEmpty .empty
      else if s.mode ≠ .setup ∧ (changes = true ∨ policy ≠ sp.policy) then
        s.answered tag rest 0x14 .wrongMode (.mode s.mode)
      else
        State.answered { s with
          spools := s.spools.set i { sp with
            capacity, policy, threshold, current := if changes then none else sp.current,
            burstSeg := if changes then false else sp.burstSeg, nearFull := nf },
          notes :=
            if sp.nearFull = .below ∧ nf = .above then
              s.notes.taking nearFullClass (.nearFull (BitVec.twoPow 8 i.val))
            else s.notes } tag rest 0x14 .ok .empty)

/-- SET_NOTE (R195, R196): refused BAD_ARGUMENT with a field out of range; otherwise the settings are stored, and a class
that becomes disabled loses its pending detail, its timer and its resend, and keeps its outstanding detail and number. -/
def Obligations.SetNoteStored : Prop :=
  ∀ (s : State) (tag cls : Byte) (rest : List Request) (enable : Bool) (priority timeout : Nat), s.inReset = false →
    priority ≤ 255 → timeout ≤ 65535 →
    s.link.intake = ⟨tag, [0x16, cls, boolByte enable, byte priority] ++ leBytes 2 timeout⟩ :: rest →
    (5 < cls.toNat ∨ 3 < priority ∨ (1 ≤ timeout ∧ timeout ≤ 9) ∨ 10000 < timeout →
      exec .setNote s = .next (s.answered tag rest 0x16 .badArgument .empty)) ∧
    (∀ n : ClassNo, cls.toNat = n.val → priority ≤ 3 → timeout = 0 ∨ (10 ≤ timeout ∧ timeout ≤ 10000) →
      ∃ c : NoteClass, c.enable = enable ∧ c.priority = priority ∧ c.timeout = timeout ∧
        c.outstanding = s.notes.classes[n].outstanding ∧ c.noteNumber = s.notes.classes[n].noteNumber ∧
        (c.pendingDetail, c.timer, c.resendDue) =
          (if s.notes.classes[n].enable = true ∧ enable = false then (none, none, false)
           else (s.notes.classes[n].pendingDetail, s.notes.classes[n].timer, s.notes.classes[n].resendDue)) ∧
        exec .setNote s = .next (State.answered { s with
          notes := { s.notes with classes := s.notes.classes.set n c } } tag rest 0x16 .ok
            (.note enable priority timeout c.state c.noteNumber c.resendDue)))

/-- SET_TIME (R69): the time base takes the value; while ARMED every enabled spool is asked for a TIME_STEP with the old
and the new time, stamped with the new; running timers are not touched. -/
def Obligations.SetTimeCarriedOut : Prop :=
  ∀ (s : State) (tag : Byte) (rest : List Request) (v : Nat), s.inReset = false → v ≤ max48 →
    s.link.intake = ⟨tag, Payload.setTime v⟩ :: rest →
    (s.mode ≠ .armed →
      exec .setTime s = .next (State.answered { s with time := v } tag rest 0x20 .ok (.times s.time v))) ∧
    (s.mode = .armed →
      ∃ t, exec .setTime s = .next t ∧ t.time = v ∧ t.mode = s.mode ∧ t.lines = s.lines ∧ t.groups = s.groups ∧
        t.burst = s.burst ∧
        (∀ i : SpoolNo, t.spools[i] = Spool.atEventEnd s.spools[i]
          (s.spools[i].appended v { body := .timeStep s.time v, timestamp := v })) ∧
        RequestEffects [lossClass, nearFullClass] s t tag rest 0x20 .ok (.times s.time v))

/-! ### The store's requests -/

/-- An ordinary append of a record that is no MARK, and the room it looks for (R12 to R16, R35): discarded on a disabled
spool, joined to the tally on an ERASING or full one, placed as the newest record otherwise, after the LOSS record of a
tally; oldest records outside pinned segments go as far as needed, and exactly the cursors on them are lapped; a loss
raises LOSS. -/
def Obligations.OrdinaryAppend : Prop :=
  (∀ (sp : Spool) (now : Nat) (d : Draft), d.body.markInfo = none →
      let free := sp.capacity - (sp.held.length + sp.reservation.toNat)
      let lost (sp : Spool) : Spool := { sp with
        tally := some (match sp.tally with
          | some y => { count := min (y.count + 1) 4294967295, first := y.first, last := d.timestamp }
          | none => { count := 1, first := d.timestamp, last := d.timestamp }),
        totalLost := min (sp.totalLost + 1) 4294967295 }
      let seg := sp.current.getD sp.nextSeg
      let record (seq : Nat) (first : Bool) (draft : Draft) : Record := { seq, seg, first, inBurst := sp.burstSeg, draft }
      let joined (n : Nat) (rs : List Record) (count : Nat) : Spool := { sp with
        held := sp.held.drop n ++ rs, nextSeq := sp.nextSeq + rs.length, current := some seg,
        nextSeg := if sp.current = none then sp.nextSeg + 1 else sp.nextSeg, segCount := count, tally := none }
      let count := if sp.current = none then 0 else sp.segCount
      (∀ k, sp.room k = true ↔
        sp.nextSeq + k + sp.reservation.toNat ≤ max48 ∧ (sp.current = none → sp.nextSeg < max32) ∧
        k ≤ free + (if sp.policy = .wrap then (sp.held.takeWhile fun r => decide (r.seg ∉ sp.pins)).length else 0)) ∧
      let removed (n : Nat) : Prop := (sp.append now d).removed = (sp.held.take n).map (·.seq) ∧
        ∀ r ∈ sp.held.take n, r.seg ∉ sp.pins
      (sp.capacity = 0 → sp.appended now d = sp ∧ removed 0) ∧
      (sp.capacity ≠ 0 →
        (sp.erasing ≠ none ∨ sp.room 1 = false → sp.appended now d = lost sp ∧ removed 0) ∧
        (sp.erasing = none →
          (∀ n, n = 1 - free → sp.tally = none → sp.room 1 = true → removed n ∧
            sp.appended now d = joined n [record sp.nextSeq sp.current.isNone d] (min (count + 1) 4294967295)) ∧
          (∀ y, sp.tally = some y →
            let loss : Draft := { body := .loss (min y.count 65535) y.first y.last, timestamp := now }
            (∀ n, n = 2 - free → sp.room 2 = true → removed n ∧
              sp.appended now d =
                joined n [record sp.nextSeq sp.current.isNone loss, record (sp.nextSeq + 1) false d]
                  (min (count + 2) 4294967295)) ∧
            (∀ n, n = 1 - free → sp.room 2 = false → sp.room 1 = true → removed n ∧
              sp.appended now d =
                lost (joined n [record sp.nextSeq sp.current.isNone loss] (min (count + 1) 4294967295))))))) ∧
  (∀ (s : State) (i : SpoolNo) (d : Draft), d.body.markInfo = none →
    let t := (append i d s).1
    let sp := s.spools[i]
    t.spools = s.spools.set i (sp.appended s.time d) ∧
      (∀ c : CursorNo, t.cursors[c] =
        if (s.cursors[c].place?.any fun q => decide (q.1 = i ∧ q.2 ∈ (sp.append s.time d).removed)) = true then
          { state := .lapped i, inFlight := none }
        else s.cursors[c]) ∧
      t.notes =
        (if sp.capacity ≠ 0 ∧ (sp.erasing ≠ none ∨ sp.room 1 = false ∨ (sp.tally ≠ none ∧ sp.room 2 = false)) then
          s.notes.taking lossClass (.loss (BitVec.twoPow 8 i.val) 1)
        else s.notes) ∧
      t = { s with spools := t.spools, cursors := t.cursors, notes := t.notes })

/-- The near-full comparison at the end of an event (R24): made once for each spool whose occupancy the event changed, a
crossing from BELOW to ABOVE raising NEAR_FULL; and the streams the event lapped end, one STREAM_END each, in ascending
cursor number, with reason ERASED at the start of an erase of their spool and LAPPED otherwise (R153). -/
def Obligations.NearFullCompared : Prop :=
  ∀ (s0 s : State) (i : SpoolNo),
    let before := s0.spools[i].held.length + s0.spools[i].reservation.toNat
    let after := s.spools[i].held.length + s.spools[i].reservation.toNat
    let threshold := s.spools[i].threshold
    let crosses := before ≠ after ∧ s.spools[i].nearFull = .below ∧ threshold ≠ 0 ∧ threshold ≤ after
    (crosses → (closeEvent s0 s).spools[i] = { s.spools[i] with nearFull := .above }) ∧
    (before ≠ after ∧ s.spools[i].nearFull = .above ∧ after < threshold →
      (closeEvent s0 s).spools[i] = { s.spools[i] with nearFull := .below }) ∧
    (¬ crosses → ¬ (before ≠ after ∧ s.spools[i].nearFull = .above ∧ after < threshold) →
      (closeEvent s0 s).spools[i] = s.spools[i]) ∧
    ((∀ j : SpoolNo, j ≠ i → s.spools[j].held.length + s.spools[j].reservation.toNat =
        s0.spools[j].held.length + s0.spools[j].reservation.toNat) →
      (crosses → (closeEvent s0 s).notes = s.notes.taking nearFullClass (.nearFull (BitVec.twoPow 8 i.val))) ∧
      (¬ crosses → (closeEvent s0 s).notes = s.notes)) ∧
    closeEvent s0 s = { s with
      spools := (closeEvent s0 s).spools, notes := (closeEvent s0 s).notes,
      link := { s.link with replyQueue := s.link.replyQueue ++ (List.finRange 4).filterMap fun c =>
        match s0.cursors[c].state, s.cursors[c].state with
        | .streaming j _ _ _, .lapped _ => some (.streamEnd c
            (if s0.spools[j].erasing = none ∧ s.spools[j].erasing ≠ none then .erased else .lapped))
        | _, _ => none } }

/-- CUT in every case (R21): refused on a disabled or ERASING spool, on an open burst segment, and without room; nothing
to cut without an open segment; otherwise the MARK is placed, after the LOSS record of a tally, and closes the segment,
and near-full is compared at the end (R24). -/
def Obligations.CutCarriedOut : Prop :=
  ∀ (s : State) (tag : Byte) (rest : List Request) (i : SpoolNo), s.inReset = false →
    s.link.intake = ⟨tag, [0x30, byte i.val]⟩ :: rest →
    (s.spools[i].capacity = 0 → exec .cut s = .next (s.answered tag rest 0x30 .spoolDisabled .empty)) ∧
    (s.spools[i].capacity ≠ 0 →
      (s.spools[i].erasing ≠ none → exec .cut s = .next (s.answered tag rest 0x30 .spoolBusy .empty)) ∧
      (s.spools[i].erasing = none →
        (s.spools[i].burstSeg = true → exec .cut s = .next (s.answered tag rest 0x30 .burstActive .empty)) ∧
        (s.spools[i].burstSeg = false →
          (s.spools[i].current = none → exec .cut s = .next (s.answered tag rest 0x30 .ok (.cut none))) ∧
          (s.spools[i].current ≠ none →
            s.spools[i].room (if s.spools[i].tally = none then 1 else 2) = false →
            exec .cut s = .next (s.answered tag rest 0x30 .spoolFull .empty)) ∧
          (∀ seg, s.spools[i].current = some seg → s.spools[i].tally = none → s.spools[i].room 1 = true →
            ∃ t n, exec .cut s = .next t ∧ StoreOnly s t ∧
              n = (if s.spools[i].held.length + s.spools[i].reservation.toNat < s.spools[i].capacity then 0 else 1) ∧
              t.spools[i] = Spool.atEventEnd s.spools[i] { s.spools[i] with
                held := s.spools[i].held.drop n ++
                  [{ seq := s.spools[i].nextSeq, seg, first := false, inBurst := false,
                     draft := { body := .mark .cut s.spools[i].segCount none, timestamp := s.time } }],
                nextSeq := s.spools[i].nextSeq + 1, current := none } ∧
              (∀ j : SpoolNo, j ≠ i → t.spools[j] = s.spools[j]) ∧
              RequestEffects [nearFullClass] s t tag rest 0x30 .ok (.cut (some (s.spools[i].nextSeq, seg)))) ∧
          (∀ seg y, s.spools[i].current = some seg → s.spools[i].tally = some y → s.spools[i].room 2 = true →
            ∃ t n, exec .cut s = .next t ∧ StoreOnly s t ∧
              n = 2 - (s.spools[i].capacity - (s.spools[i].held.length + s.spools[i].reservation.toNat)) ∧
              t.spools[i] = Spool.atEventEnd s.spools[i] { s.spools[i] with
                held := s.spools[i].held.drop n ++
                  [{ seq := s.spools[i].nextSeq, seg, first := false, inBurst := false,
                     draft := { body := .loss (min y.count 65535) y.first y.last, timestamp := s.time } },
                   { seq := s.spools[i].nextSeq + 1, seg, first := false, inBurst := false,
                     draft := { body := .mark .cut (min (s.spools[i].segCount + 1) 4294967295) none,
                                timestamp := s.time } }],
                nextSeq := s.spools[i].nextSeq + 2, current := none,
                segCount := min (s.spools[i].segCount + 1) 4294967295, tally := none } ∧
              (∀ j : SpoolNo, j ≠ i → t.spools[j] = s.spools[j]) ∧
              RequestEffects [nearFullClass] s t tag rest 0x30 .ok (.cut (some (s.spools[i].nextSeq + 1, seg)))))))

/-- RELEASE on an enabled spool that is not ERASING (R30, R31): the oldest records numbered `n` or less go, up to the first
that is numbered above `n` or lies in a pinned segment; the reply tells how many, the new oldest, and the segment whose
pin stopped it; cursors on removed records are lapped. -/
def Obligations.ReleaseRemovesRun : Prop :=
  ∀ (s : State) (tag : Byte) (rest : List Request) (i : SpoolNo) (n : Nat), s.inReset = false → n ≤ max48 →
    s.link.intake = ⟨tag, Payload.release i n⟩ :: rest → s.spools[i].enabled = true → s.spools[i].erasing = none →
    ∃ t k, exec .release s = .next t ∧ StoreOnly s t ∧ k ≤ s.spools[i].held.length ∧
      (∀ r ∈ s.spools[i].held.take k, r.seq ≤ n ∧ r.seg ∉ s.spools[i].pins) ∧
      (∀ r, s.spools[i].held[k]? = some r → n < r.seq ∨ r.seg ∈ s.spools[i].pins) ∧
      t.spools[i] = Spool.atEventEnd s.spools[i] { s.spools[i] with held := s.spools[i].held.drop k } ∧
      (∀ j : SpoolNo, j ≠ i → t.spools[j] = s.spools[j]) ∧
      (∀ c : CursorNo, t.cursors[c] =
        if (s.cursors[c].place?.any fun q => decide (q.1 = i ∧ q.2 ∈ (s.spools[i].held.take k).map (·.seq))) = true then
          { state := .lapped i, inFlight := none }
        else s.cursors[c]) ∧
      RequestEffects [nearFullClass] s t tag rest 0x31 .ok
        (.release k ((s.spools[i].held.drop k).head?.map (·.seq))
          ((s.spools[i].held[k]?.filter fun r => r.seq ≤ n).map (·.seg)))

/-- PIN and UNPIN (R33, R34): every outcome with its reply; only the pin table ever changes, and it stays in ascending
order. -/
def Obligations.PinTableChanged : Prop :=
  ∀ (s : State) (tag : Byte) (rest : List Request) (i : SpoolNo) (seg : Nat), s.inReset = false → seg ≤ max32 →
    (∀ n : Byte, 3 < n.toNat →
      (s.link.intake = ⟨tag, [0x32, n] ++ leBytes 4 seg⟩ :: rest →
        exec .pin s = .next (s.answered tag rest 0x32 .badArgument .empty)) ∧
      (s.link.intake = ⟨tag, [0x33, n] ++ leBytes 4 seg⟩ :: rest →
        exec .unpin s = .next (s.answered tag rest 0x33 .badArgument .empty))) ∧
    (s.link.intake = ⟨tag, Payload.pin 0x32 i seg⟩ :: rest → s.spools[i].capacity = 0 →
      exec .pin s = .next (s.answered tag rest 0x32 .spoolDisabled .empty)) ∧
    (s.link.intake = ⟨tag, Payload.pin 0x33 i seg⟩ :: rest → s.spools[i].capacity = 0 →
      exec .unpin s = .next (s.answered tag rest 0x33 .spoolDisabled .empty)) ∧
    (s.link.intake = ⟨tag, Payload.pin 0x32 i seg⟩ :: rest → s.spools[i].capacity ≠ 0 → s.spools[i].erasing ≠ none →
      exec .pin s = .next (s.answered tag rest 0x32 .spoolBusy .empty)) ∧
    (s.link.intake = ⟨tag, Payload.pin 0x32 i seg⟩ :: rest → s.spools[i].capacity ≠ 0 → s.spools[i].erasing = none →
      ((∀ r ∈ s.spools[i].held, r.seg ≠ seg) →
        exec .pin s = .next (s.answered tag rest 0x32 .noSuchSegment (.pins s.spools[i].pins.length))) ∧
      ((∃ r ∈ s.spools[i].held, r.seg = seg) →
        (seg ∈ s.spools[i].pins →
          exec .pin s = .next (s.answered tag rest 0x32 .ok (.pin true s.spools[i].pins.length))) ∧
        (seg ∉ s.spools[i].pins → 4 ≤ s.spools[i].pins.length →
          exec .pin s = .next (s.answered tag rest 0x32 .pinTableFull (.pins s.spools[i].pins.length))) ∧
        (seg ∉ s.spools[i].pins → s.spools[i].pins.length < 4 →
          ∃ ps : List Nat, ps.Perm (seg :: s.spools[i].pins) ∧
            (s.spools[i].pins.Pairwise (· < ·) → ps.Pairwise (· < ·)) ∧
            exec .pin s = .next (State.answered { s with spools := s.spools.set i { s.spools[i] with pins := ps } } tag
              rest 0x32 .ok (.pin false (s.spools[i].pins.length + 1)))))) ∧
    (s.link.intake = ⟨tag, Payload.pin 0x33 i seg⟩ :: rest → s.spools[i].capacity ≠ 0 →
      (seg ∉ s.spools[i].pins → exec .unpin s = .next (s.answered tag rest 0x33 .notPinned .empty)) ∧
      (seg ∈ s.spools[i].pins →
        exec .unpin s = .next (State.answered { s with
            spools := s.spools.set i { s.spools[i] with pins := s.spools[i].pins.filter fun p => p ≠ seg } } tag rest 0x33
          .ok (.pins (s.spools[i].pins.filter fun p => p ≠ seg).length))))

/-- The start of an erase (R40 to R42, R115, R153): the spool is ERASING, its pins and tally are cleared, its cursors are
lapped, a burst open on it ends without a MARK, each of its streams sends a STREAM_END, and no reply is made ready. -/
def Obligations.EraseStarts : Prop :=
  ∀ (s : State) (tag : Byte) (rest : List Request) (i : SpoolNo), s.inReset = false →
    s.link.intake = ⟨tag, [0x34, byte i.val]⟩ :: rest → s.spools[i].enabled = true → s.spools[i].erasing = none →
    ∃ t here, (here = true ↔ ∃ b, s.burst.phase = .isOpen b ∧ b.spool = i) ∧ exec .erase s = .next t ∧
      t.spools[i] = Spool.atEventEnd s.spools[i] { s.spools[i] with
        erasing := t.spools[i].erasing, pins := [], tally := none,
        reservation := if here then false else s.spools[i].reservation,
        burstSeg := if here then false else s.spools[i].burstSeg } ∧
      t.spools[i].erasing ≠ none ∧
      (∀ j : SpoolNo, j ≠ i → t.spools[j] = s.spools[j]) ∧
      t.burst = { s.burst with phase := if here then .idle else s.burst.phase } ∧
      (∀ c : CursorNo, t.cursors[c] =
        if s.cursors[c].place?.map (·.1) = some i then { state := .lapped i, inFlight := none } else s.cursors[c]) ∧
      t.link = { s.link with
        intake := rest,
        outstanding := s.link.outstanding.map fun e => if e.tag = tag then { e with stage := .erasing i } else e,
        replyQueue := s.link.replyQueue ++ (List.finRange 4).filterMap fun c =>
          match s.cursors[c].state with
          | .streaming j _ _ _ => if j = i then some (.streamEnd c .erased) else none
          | _ => none } ∧
      t.notes.credit = s.notes.credit ∧
      (∀ n : ClassNo, n ≠ nearFullClass → t.notes.classes[n] = s.notes.classes[n]) ∧
      t.notes.classes[nearFullClass] =
        { s.notes.classes[nearFullClass] with pendingDetail := t.notes.classes[nearFullClass].pendingDetail } ∧
      (t.inReset, t.mode, t.time, t.wc, t.rc) = (s.inReset, s.mode, s.time, s.wc, s.rc) ∧ t.lines = s.lines ∧
      t.groups = s.groups ∧ t.pending = s.pending

/-- The completion of an erase (R46, R47): the spool is emptied and IDLE, its numbering, tally and total lost are
kept, and the reply of the ERASE still outstanding is made ready; without one nothing is sent. That the completion is
carried out at any time while the spool is ERASING is the model's choice (DESIGN CHOICE, log entry 6). -/
def Obligations.EraseCompletes : Prop :=
  ∀ (s : State) (i : SpoolNo), s.inReset = false → s.spools[i].erasing ≠ none →
    ∃ t, exec (.eraseCompletion i) s = .next t ∧
      t.spools[i] = { s.spools[i] with
        held := [], current := none, burstSeg := false, segCount := 0, nearFull := .below, erasing := none,
        pins := t.spools[i].pins } ∧
      (∀ p ∈ t.spools[i].pins, ∀ r ∈ s.spools[i].held, r.seg ≠ p) ∧
      ((∀ e ∈ s.link.outstanding, e.stage ≠ .erasing i) → t.link = s.link) ∧
      (∀ e before after, s.link.outstanding = before ++ e :: after → e.stage = .erasing i →
        (∀ e' ∈ before, e'.stage ≠ .erasing i) →
        t.link = s.link.answered e.tag s.link.intake
          [.reply e.tag e.code ⟨.ok, .erased s.spools[i].held.length s.spools[i].nextSeq s.spools[i].nextSeg⟩ true]) ∧
      (∀ j : SpoolNo, j ≠ i → t.spools[j] = s.spools[j]) ∧ t = { s with spools := t.spools, link := t.link }

/-! ### Readout -/

/-- OPEN_CURSOR on an enabled spool that is not ERASING (R136, R137): the position each start gives, a running stream
ended CLOSED before the reply, or the refusal where nothing held fits the start. -/
def Obligations.CursorOpened : Prop :=
  ∀ (s : State) (tag : Byte) (rest : List Request) (c : CursorNo) (i : SpoolNo) (st : Start), s.inReset = false →
    (∀ n, st = .seq n → n ≤ max48) → (∀ g, st = .segment g → g ≤ max32) →
    s.link.intake = ⟨tag, Payload.openCursor c i st⟩ :: rest → s.spools[i].enabled = true → s.spools[i].erasing = none →
    let held := s.spools[i].held
    let target : Option Nat :=
      match st with
      | .oldest => some ((held.head?.map (·.seq)).getD s.spools[i].nextSeq)
      | .newest => some ((held.getLast?.map (·.seq)).getD s.spools[i].nextSeq)
      | .atEnd => some s.spools[i].nextSeq
      | .seq n => if n ∈ held.map (·.seq) then some n else none
      | .segment g => (held.find? fun r => r.seg = g).map (·.seq)
    (∀ pos, target = some pos →
      ∃ ends : List Frame, ends = (match s.cursors[c].state with
          | .streaming _ _ _ _ => [.streamEnd c .closed]
          | _ => []) ∧
        exec .openCursor s = .next { s with
          cursors := s.cursors.set c { state := .positioned i pos, inFlight := none },
          link := s.link.answered tag rest (ends ++ [.reply tag (some 0x40) ⟨.ok, .opened
            ⟨pos, decide (pos = s.spools[i].nextSeq)⟩ s.spools[i].ends⟩ true]) }) ∧
    (target = none →
      exec .openCursor s = .next (s.answered tag rest 0x40
        (match st with | .segment _ => .noSuchSegment | _ => .noSuchRecord) .empty))

/-- CLOSE_CURSOR and STOP_STREAM in every cursor state (R138, R154), and STREAM on a POSITIONED cursor of an enabled spool
that is not ERASING (R149). -/
def Obligations.StreamsStartedAndCursorsClosed : Prop :=
  ∀ (s : State) (tag : Byte) (rest : List Request) (c : CursorNo), s.inReset = false →
    (s.link.intake = ⟨tag, [0x41, byte c.val]⟩ :: rest →
      (s.cursors[c].state = .closed →
        exec .closeCursor s = .next (s.answered tag rest 0x41 .ok (.closed true))) ∧
      ((∃ i p, s.cursors[c].state = .positioned i p) ∨ (∃ i, s.cursors[c].state = .lapped i) →
        exec .closeCursor s = .next (State.answered { s with
          cursors := s.cursors.set c { state := .closed, inFlight := none } } tag rest 0x41 .ok (.closed false))) ∧
      (∀ i p n f, s.cursors[c].state = .streaming i p n f →
        exec .closeCursor s = .next { s with
          cursors := s.cursors.set c { state := .closed, inFlight := none },
          link := s.link.answered tag rest
            [.streamEnd c .closed, .reply tag (some 0x41) ⟨.ok, .closed false⟩ true] })) ∧
    (s.link.intake = ⟨tag, [0x46, byte c.val]⟩ :: rest →
      (s.cursors[c].state = .closed →
        exec .stopStream s = .next (s.answered tag rest 0x46 .noCursor .empty)) ∧
      ((∃ i p, s.cursors[c].state = .positioned i p) ∨ (∃ i, s.cursors[c].state = .lapped i) →
        exec .stopStream s = .next (s.answered tag rest 0x46 .ok (.stopped none))) ∧
      (∀ i p n f, s.cursors[c].state = .streaming i p n f →
        exec .stopStream s = .next { s with
          cursors := s.cursors.set c { s.cursors[c] with state := .positioned i p },
          link := s.link.answered tag rest [.streamEnd c .stopped, .reply tag (some 0x46)
            ⟨.ok, .stopped (some ⟨p, decide (p = s.spools[i].nextSeq)⟩)⟩ true] })) ∧
    (∀ (i : SpoolNo) (pos count : Nat) (follow : Bool), count ≤ 65535 →
      s.link.intake = ⟨tag, Payload.stream c count follow⟩ :: rest → s.spools[i].enabled = true →
      s.spools[i].erasing = none → s.cursors[c].state = .positioned i pos →
      exec .stream s = .next (State.answered { s with
          cursors := s.cursors.set c { s.cursors[c] with
            state := .streaming i pos (if count = 0 then none else some count) follow } } tag rest 0x45 .ok
        (.position ⟨pos, decide (pos = s.spools[i].nextSeq)⟩)))

/-- READ on a POSITIONED cursor of an enabled spool that is not ERASING and numbers its records consecutively (R140,
R141): up to `k` records from the position, the cursor past the last of them, in one frame up to 6 records and in two
beyond; AT_END at END. -/
def Obligations.ReadCopiesRecords : Prop :=
  ∀ (s : State) (tag : Byte) (rest : List Request) (c : CursorNo) (i : SpoolNo) (k idx : Nat), s.inReset = false →
    1 ≤ k → k ≤ 8 → s.link.intake = ⟨tag, [0x42, byte c.val, byte k]⟩ :: rest →
    s.spools[i].enabled = true → s.spools[i].erasing = none → s.spools[i].consecutive →
    idx ≤ s.spools[i].held.length →
    s.cursors[c].state = .positioned i (s.spools[i].nextSeq - (s.spools[i].held.length - idx)) →
    let records := (s.spools[i].held.drop idx).take k
    let pos' := min (s.spools[i].nextSeq - (s.spools[i].held.length - idx) + k) s.spools[i].nextSeq
    let at' : Option Position := some ⟨pos', decide (pos' = s.spools[i].nextSeq)⟩
    exec .read s = .next { s with
      cursors := s.cursors.set c { s.cursors[c] with state := .positioned i pos' },
      link := s.link.answered tag rest (
        if idx = s.spools[i].held.length then
          [.reply tag (some 0x42) ⟨.atEnd, .read false [] (some ⟨s.spools[i].nextSeq, true⟩)⟩ true]
        else if records.length ≤ 6 then [.reply tag (some 0x42) ⟨.ok, .read false records at'⟩ true]
        else [.reply tag (some 0x42) ⟨.ok, .read true (records.take 6) none⟩ false,
              .reply tag (some 0x42) ⟨.ok, .read false (records.drop 6) at'⟩ true]) }

/-- SPACE on a POSITIONED cursor of an enabled spool that is not ERASING and numbers its records consecutively (R142): it
moves record by record, stops at the oldest record or at END, and gives the steps made. -/
def Obligations.SpaceMovesByRecords : Prop :=
  ∀ (s : State) (tag : Byte) (rest : List Request) (c : CursorNo) (i : SpoolNo) (n : Int) (idx : Nat),
    s.inReset = false → -32768 ≤ n → n ≤ 32767 → n ≠ 0 → s.link.intake = ⟨tag, Payload.move 0x43 c n⟩ :: rest →
    s.spools[i].enabled = true → s.spools[i].erasing = none → s.spools[i].consecutive →
    idx ≤ s.spools[i].held.length →
    s.cursors[c].state = .positioned i (s.spools[i].nextSeq - (s.spools[i].held.length - idx)) →
    let steps := if 0 < n then min n.toNat (s.spools[i].held.length - idx) else min (-n).toNat idx
    let pos' := s.spools[i].nextSeq - (s.spools[i].held.length - (if 0 < n then idx + steps else idx - steps))
    exec .space s = .next (State.answered { s with
        cursors := s.cursors.set c { s.cursors[c] with state := .positioned i pos' } } tag rest 0x43
      (if (steps : Int) = |n| then .ok else if 0 < n then .atEnd else .atOldest)
      (.space steps ⟨pos', decide (pos' = s.spools[i].nextSeq)⟩))

/-- SKIP on a POSITIONED cursor of an enabled spool that is not ERASING (R143): to the oldest record of the target segment,
to END above the newest segment, to the oldest record below the oldest one, and nowhere in an empty spool. -/
def Obligations.SkipMovesBySegments : Prop :=
  ∀ (s : State) (tag : Byte) (rest : List Request) (c : CursorNo) (i : SpoolNo) (n : Int) (pos : Nat),
    s.inReset = false → -32768 ≤ n → n ≤ 32767 → n ≠ 0 → s.link.intake = ⟨tag, Payload.move 0x44 c n⟩ :: rest →
    s.spools[i].enabled = true → s.spools[i].erasing = none → s.cursors[c].state = .positioned i pos →
    let held := s.spools[i].held
    let goes (st : Status) (seg : Option Nat) (to' : Nat) : Prop :=
      exec .skip s = .next (State.answered { s with
          cursors := s.cursors.set c { s.cursors[c] with state := .positioned i to' } } tag rest 0x44 st
        (.skip seg ⟨to', decide (to' = s.spools[i].nextSeq)⟩))
    (held = [] → goes (if 0 < n then .atEnd else .atOldest) none s.spools[i].nextSeq) ∧
    (∀ here : Record, (held.find? fun r => r.seq = pos) = some here ∨
        ((∀ r ∈ held, r.seq ≠ pos) ∧ held.getLast? = some here) →
      (∀ first : Record, (held.find? fun r => (r.seg : Int) = here.seg + n) = some first →
        goes .ok (some first.seg) first.seq) ∧
      (∀ oldest newest : Record, held.head? = some oldest → held.getLast? = some newest →
        (∀ r ∈ held, (r.seg : Int) ≠ here.seg + n) →
        ((newest.seg : Int) < here.seg + n → goes .atEnd none s.spools[i].nextSeq) ∧
        (here.seg + n < (newest.seg : Int) → goes .atOldest (some oldest.seg) oldest.seq)))

/-- READ, SPACE, SKIP and STREAM on any other cursor, in the order of R139: NO_CURSOR, SPOOL_DISABLED, SPOOL_BUSY,
CURSOR_BUSY, and LAPPED, which moves the cursor to the oldest held record, or END, and does nothing else (R147). -/
def Obligations.CursorChecks : Prop :=
  ∀ (s : State) (tag : Byte) (rest : List Request) (c : CursorNo) (row : Instr) (payload : List Byte) (code : Byte)
    (lapped : Position → Body), s.inReset = false → s.link.intake = ⟨tag, payload⟩ :: rest →
    ((∃ k, 1 ≤ k ∧ k ≤ 8 ∧ row = .read ∧ code = 0x42 ∧ payload = [0x42, byte c.val, byte k] ∧
        lapped = fun p => .read false [] (some p)) ∨
      (∃ n : Int, -32768 ≤ n ∧ n ≤ 32767 ∧ n ≠ 0 ∧ lapped = Body.position ∧
        (row = .space ∧ code = 0x43 ∧ payload = Payload.move 0x43 c n ∨
          row = .skip ∧ code = 0x44 ∧ payload = Payload.move 0x44 c n)) ∨
      (∃ count follow, count ≤ 65535 ∧ row = .stream ∧ code = 0x45 ∧ payload = Payload.stream c count follow ∧
        lapped = Body.position)) →
    (s.cursors[c].state = .closed → exec row s = .next (s.answered tag rest code .noCursor .empty)) ∧
    (∀ i, (∃ p, s.cursors[c].place? = some (i, p)) ∨ s.cursors[c].state = .lapped i →
      (s.spools[i].capacity = 0 → exec row s = .next (s.answered tag rest code .spoolDisabled .empty)) ∧
      (s.spools[i].capacity ≠ 0 → s.spools[i].erasing ≠ none →
        exec row s = .next (s.answered tag rest code .spoolBusy .empty)) ∧
      (s.spools[i].capacity ≠ 0 → s.spools[i].erasing = none →
        (∀ p n f, s.cursors[c].state = .streaming i p n f →
          exec row s = .next (s.answered tag rest code .cursorBusy .empty)) ∧
        (s.cursors[c].state = .lapped i →
          let pos := (s.spools[i].held.head?.map (·.seq)).getD s.spools[i].nextSeq
          exec row s = .next (State.answered { s with
              cursors := s.cursors.set c { s.cursors[c] with state := .positioned i pos } } tag rest code .lapped
            (lapped ⟨pos, decide (pos = s.spools[i].nextSeq)⟩)))))

/-- LIST_SEGMENTS on an enabled spool that is not ERASING (R144, R145): an entry for each held segment numbered `start` or
above, in the order held, up to `count`, with each field as R145 gives it; nothing changes. -/
def Obligations.SegmentsListed : Prop :=
  ∀ (s : State) (tag : Byte) (rest : List Request) (i : SpoolNo) (start count : Nat), s.inReset = false →
    start ≤ max32 → 1 ≤ count → count ≤ 8 → s.link.intake = ⟨tag, Payload.listSegments i start count⟩ :: rest →
    s.spools[i].enabled = true → s.spools[i].erasing = none →
    ∃ es more, exec .listSegments s = .next (s.answered tag rest 0x47 .ok (.segments false es more)) ∧
      es.map (·.number) = (((s.spools[i].held.map (·.seg)).eraseDups).filter fun g => start ≤ g).take count ∧
      (more = true ↔ count < (((s.spools[i].held.map (·.seg)).eraseDups).filter fun g => start ≤ g).length) ∧
      ∀ e ∈ es, ∃ oldest newest : Record,
        (s.spools[i].held.filter fun r => r.seg = e.number).head? = some oldest ∧
        (s.spools[i].held.filter fun r => r.seg = e.number).getLast? = some newest ∧
        e.heldCount = (s.spools[i].held.filter fun r => r.seg = e.number).length ∧
        e.firstHeld = oldest.seq ∧ e.lastHeld = newest.seq ∧ e.truncated = !oldest.first ∧
        (e.pinned = true ↔ e.number ∈ s.spools[i].pins) ∧
        (e.state = .current ↔ s.spools[i].current = some e.number) ∧
        (e.state = .closed ↔ s.spools[i].current ≠ some e.number ∧ newest.draft.body.markInfo ≠ none) ∧
        e.markCount = (if s.spools[i].current = some e.number then none else newest.draft.body.markInfo.map (·.1)) ∧
        e.burstId =
          match (s.spools[i].held.filter fun r => r.seg = e.number).findSome? fun r => r.draft.body.burstOpenId with
          | some id => some id
          | none =>
              if s.spools[i].current = some e.number then
                match s.burst.phase with
                | .isOpen b => if b.spool = i then some b.id else none
                | _ => none
              else match newest.draft.body with
                | .mark _ _ id => id
                | _ => none

/-! ### Notifications -/

/-- CREDIT (R202): the sum stops at 8, and the reply gives it. ACK_NOTE (R200): the outstanding notification under its own
number is cleared, with its timer and its resend, and the pending detail is kept; any other number is answered STALE_NOTE
and nothing changes. Fields out of range are refused BAD_ARGUMENT. -/
def Obligations.CreditGrantedAndNoteAcknowledged : Prop :=
  ∀ (s : State) (tag : Byte) (rest : List Request), s.inReset = false →
    (∀ n : Nat, 1 ≤ n → n ≤ 8 → s.link.intake = ⟨tag, [0x50, byte n]⟩ :: rest →
      let sum := if s.notes.credit + n ≤ 8 then s.notes.credit + n else 8
      exec .credit s = .next (State.answered { s with notes := { s.notes with credit := sum } } tag rest 0x50 .ok
        (.credit sum))) ∧
    (∀ (n : ClassNo) (number : Byte), s.link.intake = ⟨tag, [0x51, byte n.val, number]⟩ :: rest →
      (s.notes.classes[n].outstanding ≠ none ∧ s.notes.classes[n].noteNumber = number.toNat →
        exec .ackNote s = .next (State.answered { s with
            notes := { s.notes with classes := s.notes.classes.set n { s.notes.classes[n] with
              outstanding := none, timer := none, resendDue := false } } } tag rest 0x51 .ok
          (.classState (if s.notes.classes[n].pendingDetail = none then .idle else .pending)))) ∧
      (s.notes.classes[n].outstanding = none ∨ s.notes.classes[n].noteNumber ≠ number.toNat →
        exec .ackNote s = .next (s.answered tag rest 0x51 .staleNote (.stale s.notes.classes[n].state
          (if s.notes.classes[n].outstanding = none then none else some s.notes.classes[n].noteNumber))))) ∧
    (∀ c number : Byte, 5 < c.toNat → s.link.intake = ⟨tag, [0x51, c, number]⟩ :: rest →
      exec .ackNote s = .next (s.answered tag rest 0x51 .badArgument .empty)) ∧
    (∀ n : Byte, n.toNat = 0 ∨ 8 < n.toNat → s.link.intake = ⟨tag, [0x50, n]⟩ :: rest →
      exec .credit s = .next (s.answered tag rest 0x50 .badArgument .empty))

/-- How a class gathers occurrences (R193, R194): a disabled class ignores one; an enabled one merges it into its pending
detail, by the rule of its class. -/
def Obligations.OccurrencesGathered : Prop :=
  (∀ (c : NoteClass) (d : Detail),
    (c.enable = false → c.take d = c) ∧
    (c.enable = true → c.pendingDetail = none → c.take d = { c with pendingDetail := some d }) ∧
    (∀ earlier, c.enable = true → c.pendingDetail = some earlier →
      c.take d = { c with pendingDetail := some (earlier.merge d) })) ∧
  (∀ (g g' : SmallSet) (n n' : Nat) (q q' : Option (SpoolNo × Nat)),
    (Detail.trip g n q).merge (.trip g' n' q') =
      .trip (g ||| g') (min (n + n') 65535) (match q with | some p => some p | none => q')) ∧
  (∀ (n n' id id' seg seg' rc rc' : Nat) (i i' : SpoolNo) (p p' : Bool),
    (Detail.burstEnd n id i seg rc p).merge (.burstEnd n' id' i' seg' rc' p') =
      .burstEnd (min (n + n') 65535) id' i' seg' rc' p') ∧
  (∀ a b : SmallSet, (Detail.nearFull a).merge (.nearFull b) = .nearFull (a ||| b) ∧
    (Detail.linkFault a).merge (.linkFault b) = .linkFault (a ||| b) ∧
    ∀ n n' : Nat, (Detail.loss a n).merge (.loss b n') = .loss (a ||| b) (min (n + n') 65535)) ∧
  (∀ a b : LineSet, (Detail.chatter a).merge (.chatter b) = .chatter (a ||| b))

/-! ### Lines -/

/-- RAW_CHANGE where no qualified change and no record follows, by line state (R51, R52, R54, R55, R58, R60, R63): only the
line itself changes. -/
def Obligations.RawChangeMovesLine : Prop :=
  ∀ (s : State) (l : LineNo) (pin : Bool), s.inReset = false →
    let ln := s.lines[l]
    let raw := pin ^^ ln.cfg.invert
    let becomes (ln' : Line) : Prop := exec (.rawChange l pin) s = .next { s with lines := s.lines.set l ln' }
    let counted (ln' : Line) : Line :=
      { ln' with chatterCount := ln.chatterCount + 1,
                 window := if ln.chatterCount = 0 then some (1000 * s.wc) else ln.window }
    (ln.pin ≠ pin →
      (ln.state = .idle → becomes { ln with pin, qualified := raw }) ∧
      (ln.state = .quiet → ln.cfg.qualify = .stable → ln.cfg.q ≠ 0 →
        becomes { ln with pin, state := .settling s.time ln.cfg.q }) ∧
      (∀ t0 t, ln.state = .settling t0 t →
        (ln.cfg.k = 0 → becomes { ln with pin, state := .quiet }) ∧
        (ln.cfg.k ≠ 0 → ln.chatterCount + 1 ≠ ln.cfg.k → becomes (counted { ln with pin, state := .quiet }))) ∧
      (∀ t, ln.state = .lockout t →
        (raw ≠ ln.qualified ∨ ln.cfg.k = 0 → becomes { ln with pin }) ∧
        (raw = ln.qualified → ln.cfg.k ≠ 0 → ln.chatterCount + 1 ≠ ln.cfg.k → becomes (counted { ln with pin }))) ∧
      (∀ t, ln.state = .suppressed t → becomes { ln with pin, state := .suppressed (1000 * s.rc) }))

/-- A qualified change while the recorder is not ARMED sets the qualified level and does nothing else (R65, R67), however
it came about (R54, R56, R57, R59). -/
def Obligations.QualifiedChangeNotArmed : Prop :=
  ∀ (s : State) (cmd : Instr) (c : Change) (level : Bool) (ln : Line), s.inReset = false → s.mode ≠ .armed →
    Accepts s cmd c level ln →
    exec cmd s = .next { s with lines := s.lines.set c.line { ln with qualified := level } }

/-- A qualified change while ARMED of a line no enabled group watches (R64, R65): the CHATTER_END of a release, an EDGE to
the route of a log-edges line and to the burst spool of a capture line, one where they are the same spool; a lookback
entry unless a burst is OPEN. -/
def Obligations.QualifiedChangeLogged : Prop :=
  ∀ (s : State) (cmd : Instr) (c : Change) (level : Bool) (ln : Line), s.inReset = false → s.mode = .armed →
    Accepts s cmd c level ln → watchedOnlyBy s c.line none →
    ∃ t, exec cmd s = .next t ∧ t.mode = s.mode ∧ t.time = s.time ∧ t.groups = s.groups ∧
      t.lines = s.lines.set c.line { ln with qualified := level } ∧
      t.burst = { s.burst with
        ring :=
          if s.lines[c.line].cfg.lookback = true ∧ s.burst.phase.open? = none then
            (s.burst.ring ++ [(⟨c.line, level, c.time, c.late, c.afterChatter⟩ : RingEntry)]).drop
              (s.burst.ring.length + 1 - 16)
          else s.burst.ring } ∧
      (∀ i : SpoolNo,
        let ended := if c.afterChatter = true ∧ s.lines[c.line].cfg.route = i then
            s.spools[i].appended s.time { body := .chatterEnd c.line level true, timestamp := s.time }
          else s.spools[i]
        let goes : Prop := (s.lines[c.line].cfg.logEdges = true ∧ s.lines[c.line].cfg.route = i) ∨
          (s.lines[c.line].cfg.capture = true ∧ ∃ b, s.burst.phase = .isOpen b ∧ b.spool = i)
        (goes → t.spools[i] = Spool.atEventEnd s.spools[i] (ended.appended s.time
          { body := .edge c.line level, timestamp := c.time, late := c.late, afterChatter := c.afterChatter })) ∧
        (¬ goes → t.spools[i] = Spool.atEventEnd s.spools[i] ended)) ∧
      SideEffects [lossClass, nearFullClass] s t

/-- The evaluations of a qualified change while ARMED in which no group of action BURST trips, in ascending group number,
whatever the line's flags (R65, R76 to R78, R80 to R83): each group's state after the change, the records appended to
each route after the change's own, and the TRIP class, raised once for each trip with the place of its record. -/
def Obligations.GroupFollowsPattern : Prop :=
  ∀ (s : State) (cmd : Instr) (c : Change) (level : Bool) (ln : Line) (e : Evaluation), s.inReset = false →
    s.mode = .armed → Accepts s cmd c level ln → e.ofChange s c level →
    (∀ g : GroupNo, e.trips s c g = true → s.groups[g].cfg.action = .log ∧ e.disposition g = (.none, none)) →
    ∃ t, exec cmd s = .next t ∧ t.mode = s.mode ∧ t.time = s.time ∧
      t.burst = { s.burst with ring := changeRing s c level } ∧
      t.lines = s.lines.set c.line { ln with qualified := level } ∧
      (∀ g : GroupNo, (s.groups[g].cfg.enabled = false ∨ s.groups[g].cfg.members.getLsbD c.line.val = false →
        t.groups[g] = s.groups[g]) ∧
        (s.groups[g].cfg.enabled = true → s.groups[g].cfg.members.getLsbD c.line.val = true →
          (s.groups[g].state = .conforming → e.conforms g = false → t.groups[g] =
            { s.groups[g] with state := .tripped c.time, tripCount := min (s.groups[g].tripCount + 1) 65535 }) ∧
          (∀ t0, s.groups[g].state = .tripped t0 → t.groups[g] =
            { s.groups[g] with state := if e.conforms g then .conforming else .tripped t0 }) ∧
          (s.groups[g].state = .blocked → t.groups[g] =
            { s.groups[g] with state := if e.conforms g then .conforming else .blocked }))) ∧
      (∀ i : SpoolNo, t.spools[i] = Spool.atEventEnd s.spools[i] (e.spool s c level (List.finRange 8) i)) ∧
      t.notes.classes[tripClass] = e.tripNotes s c level ∧
      SideEffects [tripClass, lossClass, nearFullClass] s t

/-- A line's suppression (R60, R62) and its release without a change of level (R64), each ARMED or not. (A
release with a change of level is a qualified change: `Accepts`.) -/
def Obligations.LineSuppressedAndReleased : Prop :=
  ∀ (s : State) (l : LineNo), s.inReset = false →
    (∀ pin : Bool, s.mode = .armed → s.lines[l].pin ≠ pin → s.lines[l].cfg.k ≠ 0 →
      s.lines[l].chatterCount + 1 = s.lines[l].cfg.k →
      ((∃ t0 t, s.lines[l].state = .settling t0 t) ∨
        ((∃ t, s.lines[l].state = .lockout t) ∧ (pin ^^ s.lines[l].cfg.invert) = s.lines[l].qualified)) →
      ∃ t, exec (.rawChange l pin) s = .next t ∧ t.mode = s.mode ∧ t.time = s.time ∧ t.groups = s.groups ∧
        t.burst = s.burst ∧
        t.lines = s.lines.set l { s.lines[l] with
          pin, state := .suppressed (1000 * s.rc), window := none, chatterCount := s.lines[l].cfg.k } ∧
        (∀ i : SpoolNo, t.spools[i] =
          if s.lines[l].cfg.route = i then Spool.atEventEnd s.spools[i] (s.spools[i].appended s.time
            { body := .chatter l s.lines[l].cfg.k s.lines[l].qualified, timestamp := s.time })
          else s.spools[i]) ∧
        t.notes.classes[chatterClass] = s.notes.classes[chatterClass].take (.chatter (BitVec.twoPow 32 l.val)) ∧
        SideEffects [chatterClass, lossClass, nearFullClass] s t) ∧
    (∀ pin : Bool, s.mode ≠ .armed → s.lines[l].pin ≠ pin → s.lines[l].cfg.k ≠ 0 →
      s.lines[l].chatterCount + 1 = s.lines[l].cfg.k →
      ((∃ t0 t, s.lines[l].state = .settling t0 t) ∨
        ((∃ t, s.lines[l].state = .lockout t) ∧ (pin ^^ s.lines[l].cfg.invert) = s.lines[l].qualified)) →
      exec (.rawChange l pin) s = .next { s with lines := s.lines.set l { s.lines[l] with
        pin, state := .suppressed (1000 * s.rc), window := none, chatterCount := s.lines[l].cfg.k } }) ∧
    (s.lines[l].state = .suppressed 0 → s.lines[l].raw = s.lines[l].qualified →
      (s.mode ≠ .armed → exec (.releaseTimerExpiry l) s = .next { s with
        lines := s.lines.set l { s.lines[l] with state := .quiet, chatterCount := 0 } }) ∧
      (s.mode = .armed →
        ∃ t, exec (.releaseTimerExpiry l) s = .next t ∧ StoreOnly { s with
            lines := s.lines.set l { s.lines[l] with state := .quiet, chatterCount := 0 } } t ∧
          (∀ i : SpoolNo, t.spools[i] =
            if s.lines[l].cfg.route = i then Spool.atEventEnd s.spools[i] (s.spools[i].appended s.time
              { body := .chatterEnd l s.lines[l].raw false, timestamp := s.time })
            else s.spools[i]) ∧
          SideEffects [lossClass, nearFullClass] s t))

/-- The expiries that write no record (R59, R61, R107, R198). -/
def Obligations.TimersRunOut : Prop :=
  ∀ s : State, s.inReset = false →
    (∀ l : LineNo, s.lines[l].state = .lockout 0 → s.lines[l].raw = s.lines[l].qualified →
      exec (.lockoutExpiry l) s = .next { s with lines := s.lines.set l { s.lines[l] with state := .quiet } }) ∧
    (∀ l : LineNo, s.lines[l].window = some 0 →
      exec (.chatterWindowExpiry l) s = .next { s with
        lines := s.lines.set l { s.lines[l] with chatterCount := 0, window := none } }) ∧
    (∀ id i g, s.burst.phase = .cooldown id i g 0 →
      exec .cooldownExpiry s = .next { s with burst := { s.burst with phase := .idle } }) ∧
    (∀ n : ClassNo, s.notes.classes[n].timer = some 0 →
      exec (.acknowledgeTimerExpiry n) s = .next { s with
        notes := { s.notes with
          classes := s.notes.classes.set n { s.notes.classes[n] with timer := none, resendDue := true } } })

/-! ### Bursts -/

/-- A trip of a BURST group, in IDLE or breaking through a COOLDOWN, on a spool with room for the opening opens a
burst (R99 to R102, R106, R22), whatever the line's flags: after the change's own records come the MARK that closes an
open segment, BURST_OPEN, the LOSS record of a tally and the TRIP, oldest records going as far as needed, the lookback
records as ordinary appends in the order of R102, the slot staying reserved; the deadline and the window timer; an
empty ring. A deadline beyond 2^48 - 1, here shut out, is a free value (DESIGN CHOICE, log entry 5). -/
def Obligations.BurstOpens : Prop :=
  ∀ (s : State) (cmd : Instr) (c : Change) (level : Bool) (ln : Line) (g : GroupNo) (i : SpoolNo), s.inReset = false →
    s.mode = .armed → Accepts s cmd c level ln → watchedOnlyBy s c.line (some g) → s.groups[g].cfg.enabled = true →
    s.groups[g].cfg.members.getLsbD c.line.val = true → s.groups[g].cfg.action = .burst →
    s.groups[g].cfg.route = i → s.groups[g].state = .conforming →
    (∃ m : LineNo, s.groups[g].cfg.members.getLsbD m.val = true ∧
      (if m = c.line then level else s.lines[m].qualified) ≠ s.groups[g].cfg.reference.getLsbD m.val) →
    s.burst.phase = .idle ∨
      (∃ id i' g' tm, s.burst.phase = .cooldown id i' g' tm ∧ s.burst.settings.p ≤ s.groups[g].cfg.priority) →
    s.burst.ring.length ≤ 16 → s.spools[i].enabled = true → s.spools[i].erasing = none → s.spools[i].reservation = false →
    let sp := changeSpool s c level i
    let selected := (changeRing s c level).filter fun e => c.time ≤ e.timestamp + 1000 * s.burst.settings.tl
    let m := if sp.current = none then 0 else 1
    let l := if sp.tally = none then 0 else 1
    let d := c.time + 1000 * min s.groups[g].cfg.w s.burst.settings.m
    let id := s.burst.nextId
    sp.room (m + 2 + l + 1) true = true → d ≤ max48 →
    ∃ (t : State) (levels : LineSet) (lookback : List RingEntry), exec cmd s = .next t ∧
      (∀ k : LineNo, levels.getLsbD k.val =
        (s.groups[g].cfg.members.getLsbD k.val && (if k = c.line then level else s.lines[k].qualified))) ∧
      lookback.Perm selected ∧
      lookback.Pairwise (fun a b => a.timestamp < b.timestamp ∨ a.timestamp = b.timestamp ∧ a.line ≤ b.line) ∧
      (∀ a : RingEntry, (lookback.filter fun b => b.timestamp = a.timestamp ∧ b.line = a.line) =
        selected.filter fun b => b.timestamp = a.timestamp ∧ b.line = a.line) ∧
      (let opened : Spool := { sp with
        held := sp.held.drop (m + 2 + l + 1 - (sp.capacity - sp.held.length)) ++
          (match sp.current with
           | some seg =>
               [{ seq := sp.nextSeq, seg, first := false, inBurst := sp.burstSeg,
                  draft := { body := .mark .burstStart sp.segCount none, timestamp := s.time } }]
           | none => []) ++
          [{ seq := sp.nextSeq + m, seg := sp.nextSeg, first := true, inBurst := true,
             draft := { body := .burstOpen id g d selected.length, timestamp := s.time } }] ++
          (match sp.tally with
           | some y =>
               [{ seq := sp.nextSeq + m + 1, seg := sp.nextSeg, first := false, inBurst := true,
                  draft := { body := .loss (min y.count 65535) y.first y.last, timestamp := s.time } }]
           | none => []) ++
          [{ seq := sp.nextSeq + m + 1 + l, seg := sp.nextSeg, first := false, inBurst := true,
             draft := { body := .trip g c.line levels (min (s.groups[g].tripCount + 1) 65535) .opened (some id),
                        timestamp := c.time, late := c.late, afterChatter := c.afterChatter } }],
        nextSeq := sp.nextSeq + m + 2 + l, nextSeg := sp.nextSeg + 1, current := some sp.nextSeg, segCount := 2 + l,
        burstSeg := true, reservation := true, tally := none }
       t.spools[i] = Spool.atEventEnd s.spools[i] (opened.appendedAll s.time (lookback.map fun e =>
        { body := .edge e.line e.level, timestamp := e.timestamp, lookback := true, late := e.late,
          afterChatter := e.afterChatter }))) ∧
      (∀ j : SpoolNo, j ≠ i → t.spools[j] = Spool.atEventEnd s.spools[j] (changeSpool s c level j)) ∧
      t.mode = s.mode ∧ t.time = s.time ∧
      t.burst = { s.burst with
        phase := .isOpen { id, spool := i, group := g, t0 := c.time, deadline := d, timer := d - s.time },
        nextId := if id = 65535 then 1 else id + 1, ring := [] } ∧
      t.groups = s.groups.set g { s.groups[g] with
        state := .tripped c.time, tripCount := min (s.groups[g].tripCount + 1) 65535 } ∧
      t.lines = s.lines.set c.line { ln with qualified := level } ∧
      t.notes.classes[tripClass] = s.notes.classes[tripClass].take
        (.trip (BitVec.twoPow 8 g.val) 1 (some (i, sp.nextSeq + m + 1 + l))) ∧
      SideEffects [tripClass, lossClass, nearFullClass] s t

/-- Trips of BURST groups that open no burst, one or several on a qualified change, in ascending group number among
the other evaluations (R76, R79, R99): EXTENDED while one is OPEN, SUPPRESSED below the breakthrough level in
COOLDOWN, REFUSED where the route is ERASING or lacks the room (R100, R103, R104, R106). Each finds the burst
controller as the one before it left it; its TRIP is an ordinary append to the group's route, and TRIP is raised with
its place (R80). A deadline beyond 2^48 - 1, here shut out, is a free value (DESIGN CHOICE, log entry 5). -/
def Obligations.BurstTripOtherwise : Prop :=
  ∀ (s : State) (cmd : Instr) (c : Change) (level : Bool) (ln : Line) (e : Evaluation) (phase : Nat → BurstPhase),
    s.inReset = false → s.mode = .armed → Accepts s cmd c level ln → e.ofChange s c level → phase 0 = s.burst.phase →
    (∀ g : GroupNo,
      (e.trips s c g = true → s.groups[g].cfg.action = .burst →
        TripTaken s.burst.settings s.groups[g].cfg (e.spoolAt s c level g s.groups[g].cfg.route) c.time (phase g.val)
          (e.disposition g) (phase (g.val + 1))) ∧
      (e.trips s c g = true → s.groups[g].cfg.action = .log → e.disposition g = (.none, none)) ∧
      (¬ (e.trips s c g = true ∧ s.groups[g].cfg.action = .burst) → phase (g.val + 1) = phase g.val)) →
    ∃ t, exec cmd s = .next t ∧ t.mode = s.mode ∧ t.time = s.time ∧
      t.burst = { s.burst with phase := phase 8, ring := changeRing s c level } ∧
      t.lines = s.lines.set c.line { ln with qualified := level } ∧
      (∀ g : GroupNo, t.groups[g] = e.group s c g) ∧
      (∀ i : SpoolNo, t.spools[i] = Spool.atEventEnd s.spools[i] (e.spool s c level (List.finRange 8) i)) ∧
      t.notes.classes[tripClass] = e.tripNotes s c level ∧
      SideEffects [tripClass, lossClass, nearFullClass] s t

/-- The deadline of a burst with its slot reserved (R109, R23, R37, R113): the MARK in the reserved slot closes the burst
segment, the segment is pinned where the opening group asks for it and the table has a place, BURST_END is raised, and
the cooldown begins, or IDLE where H is 0. -/
def Obligations.DeadlineClosesBurst : Prop :=
  ∀ (s : State) (b : OpenBurst) (seg : Nat), s.inReset = false → s.burst.phase = .isOpen b → b.timer = 0 →
    s.spools[b.spool].reservation = true → s.spools[b.spool].current = some seg →
    ∃ t, exec .deadlineExpiry s = .next t ∧ t.mode = s.mode ∧ t.time = s.time ∧ t.lines = s.lines ∧
      t.groups = s.groups ∧ t.cursors = s.cursors ∧ t.link = s.link ∧
      (∀ j : SpoolNo, j ≠ b.spool → t.spools[j] = s.spools[j]) ∧
      t.spools[b.spool] = { s.spools[b.spool] with
        held := s.spools[b.spool].held ++
          [{ seq := s.spools[b.spool].nextSeq, seg, first := false, inBurst := s.spools[b.spool].burstSeg,
             draft := { body := .mark .burstEnd s.spools[b.spool].segCount (some b.id), timestamp := s.time } }],
        nextSeq := s.spools[b.spool].nextSeq + 1, current := none, burstSeg := false, reservation := false,
        pins := t.spools[b.spool].pins } ∧
      (∀ p, p ∈ t.spools[b.spool].pins ↔ p ∈ s.spools[b.spool].pins ∨
        (p = seg ∧ s.groups[b.group].cfg.pinOnBurst = true ∧ s.spools[b.spool].pins.length < 4)) ∧
      t.burst = { s.burst with phase :=
        if s.burst.settings.h = 0 then .idle else .cooldown b.id b.spool b.group (1000 * s.burst.settings.h) } ∧
      t.notes.classes[burstEndClass] = s.notes.classes[burstEndClass].take
        (burstEndDetail b s.spools[b.spool] (decide (seg ∈ t.spools[b.spool].pins))) ∧
      SideEffects [burstEndClass] s t

/-! ### The link -/

/-- CHARACTER_RECEIVED in each receiver state (R161): only the receiver changes; a byte of a frame restarts the gap
timer. That the gap timer is held as the time since the last byte is the model's choice (DESIGN CHOICE, log entry 8).
-/
def Obligations.ReceiverTakesCharacter : Prop :=
  ∀ (s : State) (b : Byte), s.inReset = false →
    let becomes (rx : Receiver) : Prop := exec (.characterReceived b) s = .next { s with link := { s.link with rx } }
    (s.link.rx = .hunt → b = 0xC3 → becomes (.length 0)) ∧
    (s.link.rx = .hunt → b ≠ 0xC3 → exec (.characterReceived b) s = .next s) ∧
    (∀ gap, s.link.rx = .length gap → 2 ≤ b.toNat → b.toNat ≤ 250 →
      becomes (.body b.toNat [] (crcOf [b]) 0)) ∧
    (∀ len got crc gap, s.link.rx = .body len got crc gap →
      becomes (if got.length + 1 = len then .check (got ++ [b]) (crcByte crc b) none 0
        else .body len (got ++ [b]) (crcByte crc b) 0)) ∧
    (∀ got crc gap, s.link.rx = .check got crc none gap → becomes (.check got crc (some b) 0)) ∧
    (s.link.rx = .low → exec (.characterReceived b) s = .next s)

/-- The bytes of every REQUEST frame the host can send are received as that request: from HUNT, with a place and its tag
free, the frame's bytes one by one leave its tag and its payload at the newest end of the intake (R160, R161, R163,
R166, R178). -/
def Obligations.RequestFrameReceived : Prop :=
  ∀ (s : State) (tag : Byte) (payload : List Byte), s.inReset = false → s.link.rx = .hunt → payload.length ≤ 248 →
    s.link.outstanding.length < 4 → tag ∉ s.link.outstanding.map (·.tag) →
    runCommands (arrivalOf (frameBytes 0x01 tag payload)) s = .next { s with link := { s.link with
      rx := .hunt, intake := s.link.intake ++ [{ tag, payload }],
      outstanding := s.link.outstanding ++ [{ tag, code := payload.head?, stage := .queued }] } }

/-- FRAME_ARRIVAL of a good frame (R163, R166, R178, R179): a REQUEST is accepted, or refused BUSY with 4 outstanding, or
TAG_IN_USE; another kind is refused BAD_REQUEST; a refusal takes a slot, and without a free one is dropped and counted. -/
def Obligations.GoodFrameHandedOn : Prop :=
  ∀ (s : State) (kind tag hi lo : Byte) (payload : List Byte) (crc : BitVec 16) (gap : Nat), s.inReset = false →
    s.link.rx = .check (kind :: tag :: payload) crc (some hi) gap → crc.toNat = 256 * hi.toNat + lo.toNat →
    let refused (code : Option Byte) (st : Status) : Prop :=
      (s.link.refusalSlots < 2 → exec (.frameArrival lo) s = .next { s with link := { s.link with
        rx := .hunt, refusalSlots := s.link.refusalSlots + 1,
        replyQueue := s.link.replyQueue ++ [.refusal tag code st] } }) ∧
      (2 ≤ s.link.refusalSlots → exec (.frameArrival lo) s = .next { s with
        link := { s.link with
          rx := .hunt,
          counters := s.link.counters.set refusalsDropped (min (s.link.counters[refusalsDropped] + 1) 65535) },
        notes := s.notes.taking linkFaultClass (.linkFault 0x20) })
    (kind ≠ 0x01 → refused none .badRequest) ∧
    (kind = 0x01 →
      (4 ≤ s.link.outstanding.length → refused payload.head? .busy) ∧
      (s.link.outstanding.length < 4 → tag ∈ s.link.outstanding.map (·.tag) → refused payload.head? .tagInUse) ∧
      (s.link.outstanding.length < 4 → tag ∉ s.link.outstanding.map (·.tag) →
        exec (.frameArrival lo) s = .next { s with link := { s.link with
          rx := .hunt, intake := s.link.intake ++ [{ tag, payload }],
          outstanding := s.link.outstanding ++ [{ tag, code := payload.head?, stage := .queued }] } }))

/-- The counted link faults (R162 to R165, R167): the partial frame is discarded, the fault's counter rises by 1 up to
65535, LINK_FAULT is raised naming it, and nothing else changes. A character error between frames is not counted. That
the gap timeout is taken 2000 µs or more after the last byte, no command being a start bit, is the model's choice (DESIGN
CHOICE, log entry 8). -/
def Obligations.LinkFaultCounted : Prop :=
  ∀ s : State, s.inReset = false →
    let fault (cmd : Instr) (k : CounterNo) (rx : Receiver) : Prop :=
      exec cmd s = .next { s with
        link := { s.link with rx, counters := s.link.counters.set k (min (s.link.counters[k] + 1) 65535) },
        notes := s.notes.taking linkFaultClass (.linkFault (BitVec.twoPow 8 k.val)) }
    (∀ (b : Byte) gap, s.link.rx = .length gap → ¬ (2 ≤ b.toNat ∧ b.toNat ≤ 250) →
      fault (.lengthFault b) lengthErrors .hunt) ∧
    (∀ (got : List Byte) (crc : BitVec 16) (hi lo : Byte) gap, s.link.rx = .check got crc (some hi) gap →
      crc.toNat ≠ 256 * hi.toNat + lo.toNat → fault (.frameArrival lo) checkErrors .hunt) ∧
    (∀ g, s.link.rx.gap = some g → 2000 ≤ g → fault .gapTimeout gapTimeouts .hunt) ∧
    (∀ (stillLow : Bool), s.link.rx.inFrame = true →
      fault (.characterError stillLow) characterErrors (if stillLow then .low else .hunt)) ∧
    (∀ (stillLow : Bool), s.link.rx = .hunt → exec (.characterError stillLow) s =
      .next { s with link := { s.link with rx := if stillLow then .low else .hunt } }) ∧
    (s.link.rx = .low → exec .receiveLineReturnsHigh s =
      .next { s with link := { s.link with rx := .hunt, breakTaken := false } })

/-- A link break (R171 to R173, R157, R204): one to a low period; what it does to the link, to each cursor and to each
class, and that nothing else changes. -/
def Obligations.LinkBreakCarriedOut : Prop :=
  ∀ s : State, s.inReset = false →
    (s.link.breakTaken = true → exec .linkBreak s = .next s) ∧
    (s.link.breakTaken = false →
      ∃ t, exec .linkBreak s = .next t ∧
        (∀ c : CursorNo,
          (s.cursors[c].place? = none → t.cursors[c] = s.cursors[c]) ∧
          (∀ i p, s.cursors[c].place? = some (i, p) →
            (s.cursors[c].inFlight = none → t.cursors[c] = { state := .positioned i p, inFlight := none }) ∧
            (∀ m, s.cursors[c].inFlight = some m →
              (m ∈ s.spools[i].held.map (·.seq) → t.cursors[c] = { state := .positioned i m, inFlight := none }) ∧
              (m ∉ s.spools[i].held.map (·.seq) → t.cursors[c] = { state := .lapped i, inFlight := none })))) ∧
        (∀ n : ClassNo,
          let k := if n = linkFaultClass then s.notes.classes[n].take (.linkFault 0x10) else s.notes.classes[n]
          t.notes.classes[n] =
            match k.outstanding with
            | none => k
            | some d => { k with
                pendingDetail := if k.enable then some (match k.pendingDetail with
                    | some later => d.merge later
                    | none => d) else k.pendingDetail,
                outstanding := none, timer := none, resendDue := false }) ∧
        t = { s with
          cursors := t.cursors, notes := { classes := t.notes.classes, credit := 0 },
          link := { s.link with
            rx := .low, breakTaken := true, intake := [], outstanding := [], replyQueue := [], refusalSlots := 0,
            path := none, counters := s.link.counters.set breaks (min (s.link.counters[breaks] + 1) 65535) } })

/-- ARBITER_CHOICE of a waiting frame or of a notification (R169 cases 1 and 2, R197 to R199): the oldest of the reply
queue; else, with credit, the class of highest priority, the lowest number among equals, which is resent where a
resend is due and otherwise sends its pending detail under the next note number. Nothing is chosen while the path is
BUSY. That the transmission's remainder is counted in baud units is the model's choice (DESIGN CHOICE, log entry 7).
-/
def Obligations.ArbiterSendsReplyOrNote : Prop :=
  ∀ s : State, s.inReset = false →
    (∀ p, s.link.path = some p → exec .arbiterChoice s = .next s) ∧
    (s.link.path = none →
      (∀ f rest, s.link.replyQueue = f :: rest → exec .arbiterChoice s = .next { s with link := { s.link with
        replyQueue := rest, path := some { frame := f, left := f.size * 10 * 1000000 } } }) ∧
      (s.link.replyQueue = [] → s.notes.credit ≠ 0 → ∀ n : ClassNo, s.notes.classes[n].sendable = true →
        (∀ m : ClassNo, s.notes.classes[m].sendable = true →
          s.notes.classes[m].priority < s.notes.classes[n].priority ∨
            s.notes.classes[m].priority = s.notes.classes[n].priority ∧ n ≤ m) →
        let timer := if s.notes.classes[n].timeout = 0 then none else some (1000 * s.notes.classes[n].timeout)
        let sends (f : Frame) (c : NoteClass) : Prop := exec .arbiterChoice s = .next { s with
          notes := { classes := s.notes.classes.set n c, credit := s.notes.credit - 1 },
          link := { s.link with path := some { frame := f, left := f.size * 10 * 1000000 } } }
        (∀ d, s.notes.classes[n].resendDue = true → s.notes.classes[n].outstanding = some d →
          sends (.notify n s.notes.classes[n].noteNumber true d)
            { s.notes.classes[n] with resendDue := false, timer }) ∧
        (∀ d, s.notes.classes[n].resendDue = false → s.notes.classes[n].pendingDetail = some d →
          sends (.notify n ((s.notes.classes[n].noteNumber + 1) % 256) false d)
            { s.notes.classes[n] with
              noteNumber := (s.notes.classes[n].noteNumber + 1) % 256, pendingDetail := none, outstanding := some d,
              timer })))

/-- ARBITER_CHOICE of a stream (R169 case 3, R150 to R152): the first eligible cursor after the last served sends up
to 6 records, no more than remain, and advances past them; the frame ends the stream at the count, or at END without
follow. Its records are consecutive and it stands on a held record or at END (R13, R134). That the transmission's
remainder is counted in baud units is the model's choice (DESIGN CHOICE, log entry 7). -/
def Obligations.ArbiterSendsStream : Prop :=
  ∀ (s : State) (k : Fin 4) (i : SpoolNo) (idx : Nat) (remaining : Option Nat) (follow : Bool), s.inReset = false →
    s.link.path = none → s.link.replyQueue = [] →
    (s.notes.credit = 0 ∨ ∀ n : ClassNo, s.notes.classes[n].sendable = false) →
    let c : CursorNo := s.link.lastServed + 1 + k
    (∀ j : Fin 4, j < k → eligible s (s.link.lastServed + 1 + j) = false) →
    s.spools[i].consecutive → idx ≤ s.spools[i].held.length → remaining ≠ some 0 →
    (idx = s.spools[i].held.length → follow = false) →
    s.cursors[c].state = .streaming i (s.spools[i].nextSeq - (s.spools[i].held.length - idx)) remaining follow →
    let records := (s.spools[i].held.drop idx).take (match remaining with | some r => min 6 r | none => 6)
    let n := records.length
    let pos := s.spools[i].nextSeq - (s.spools[i].held.length - (idx + n))
    let ended : Option StreamEnd :=
      if remaining = some n then some .count
      else if idx + n = s.spools[i].held.length ∧ follow = false then some .atEnd else none
    let frame : Frame := .data c ended records
    exec .arbiterChoice s = .next { s with
      cursors := s.cursors.set c
        { state := if ended = none then .streaming i pos (remaining.map (· - n)) follow else .positioned i pos,
          inFlight := match records.head? with | some r => some r.seq | none => s.cursors[c].inFlight },
      link := { s.link with lastServed := c, path := some { frame, left := frame.size * 10 * 1000000 } } }

/-- TRANSMISSION_COMPLETION once the frame's length times ten bit times have passed (R159, R170): the path becomes FREE and the owner of the frame is told, by the frame's sort. -/
def Obligations.TransmissionCompleted : Prop :=
  ∀ (s : State) (p : Transmission), s.inReset = false → s.link.path = some p → p.left = 0 →
    let freed (l : Link) : State := { s with link := { l with path := none } }
    (∀ tag code r, p.frame = .reply tag code r true → exec .transmissionCompletion s =
      .next (freed { s.link with outstanding := s.link.outstanding.filter fun e => e.tag ≠ tag })) ∧
    (∀ tag code r, p.frame = .reply tag code r false → exec .transmissionCompletion s = .next (freed s.link)) ∧
    (∀ tag code st, p.frame = .refusal tag code st → exec .transmissionCompletion s =
      .next (freed { s.link with refusalSlots := s.link.refusalSlots - 1 })) ∧
    (∀ c reason, p.frame = .streamEnd c reason → exec .transmissionCompletion s = .next (freed s.link)) ∧
    (∀ n number resend d, p.frame = .notify n number resend d →
      exec .transmissionCompletion s = .next (freed s.link)) ∧
    (∀ c ended records, p.frame = .data c ended records → exec .transmissionCompletion s =
      .next { freed s.link with cursors := s.cursors.set c { s.cursors[c] with inFlight := none } })

/-! ### Laws every step keeps -/

/-- The laws hold at reset, whatever the contacts give. That `State.reset` has every contact and strap low is the
model's choice (DESIGN CHOICE, log entry 9). -/
def Obligations.LawsHoldAtReset : Prop :=
  ∀ (pins : LineSet) (speed : LinkSpeed),
    NotesLaw (State.atReset pins speed) ∧ LinkLaw (State.atReset pins speed) ∧ ModeLaw (State.atReset pins speed) ∧
      LineLaw (State.atReset pins speed) ∧ GroupLaw (State.atReset pins speed) ∧ PinLaw (State.atReset pins speed) ∧
      SequenceLaw (State.atReset pins speed) ∧ CapacityLaw (State.atReset pins speed) ∧
      CursorLaw (State.atReset pins speed)

/-- No step breaks the notification unit's law (R191, R196, R202). -/
def Obligations.StepKeepsNotesLaw : Prop := ∀ s t : State, NotesLaw s → step s = .next t → NotesLaw t

/-- No step breaks the link controller's law (R167, R177 to R179). That the gap timer stops at a character's time past
its 2 ms is the model's choice (DESIGN CHOICE, log entry 8). -/
def Obligations.StepKeepsLinkLaw : Prop := ∀ s t : State, LinkLaw s → step s = .next t → LinkLaw t

/-- No step breaks the modes' law (R53, R96 to R98, R117). -/
def Obligations.StepKeepsModeLaw : Prop := ∀ s t : State, ModeLaw s → step s = .next t → ModeLaw t

/-- No step breaks the qualifier's law (R52), nor lets an enabled group's state part from its members' levels while
ARMED (R75). That a line entering IDLE takes its raw level at once is the model's reading (DEDUCED, log entry 10). -/
def Obligations.StepKeepsLevelLaws : Prop :=
  ∀ s t : State, ModeLaw s → LineLaw s → GroupLaw s → step s = .next t → LineLaw t ∧ GroupLaw t

/-- No step breaks the numbering of held records (R13) nor the pin tables' law (R32). -/
def Obligations.StepKeepsSpoolLaws : Prop :=
  ∀ s t : State, SequenceLaw s → PinLaw s → step s = .next t → SequenceLaw t ∧ PinLaw t

/-- No step lets a spool outgrow its capacity or a reservation stand without its burst (R10, R96). -/
def Obligations.StepKeepsCapacityLaw : Prop :=
  ∀ s t : State, ModeLaw s → CapacityLaw s → step s = .next t → CapacityLaw t

/-- No step leaves an open cursor off its spool's records and END (R134). -/
def Obligations.StepKeepsCursorLaw : Prop :=
  ∀ s t : State, SequenceLaw s → CursorLaw s → step s = .next t → CursorLaw t
end

