-- ==== Sys2Proof/Laws/Basics.lean ====
section
/-! SUPPORT. The plainest operations of Word.lean: vectors mapped, updated and read, bitmaps, saturating sums. -/

namespace Sys2Proof

/-- An entry of a mapped vector. -/
@[simp] theorem mapV_get {α β : Type} {n : Nat} (f : α → β) (v : Vector α n) (i : Fin n) : (mapV f v)[i] = f v[i] := by
  simp [mapV, Vector.getElem_mk, Vector.getElem_toList]

/-- An entry of an updated vector. -/
theorem Vector_set_get {α : Type} {n : Nat} (v : Vector α n) (i j : Fin n) (a : α) :
    (v.set i a)[j] = if i = j then a else v[j] := by
  rcases eq_or_ne i j with h | h
  · subst h; simp
  · have : (i : Nat) ≠ j := fun e => h (Fin.ext e)
    simp [h, this]

/-- Two vectors with equal entries are equal. -/
theorem Vector_ext_get {α : Type} {n : Nat} {v w : Vector α n} (h : ∀ i : Fin n, v[i] = w[i]) : v = w :=
  Vector.ext fun i hi => h ⟨i, hi⟩

/-- A saturating sum never exceeds its top. -/
theorem satAdd_le (top n k : Nat) : satAdd top n k ≤ top := Nat.min_le_right _ _

/-- Bit l of a bitmap says whether the predicate holds of l. -/
theorem bitsOf_getLsbD (f : LineNo → Bool) (l : LineNo) : (bitsOf f).getLsbD l.val = f l := by
  have key : ∀ (ls : List LineNo) (acc : LineSet),
      (ls.foldr (fun k a => if f k then a ||| BitVec.twoPow 32 k.val else a) acc).getLsbD l.val
        = (acc.getLsbD l.val || decide (l ∈ ls) && f l) := by
    intro ls acc
    induction ls with
    | nil => simp
    | cons k ks ih =>
      have hk : decide (k.val = l.val) = decide (l = k) := by simp [Fin.ext_iff, eq_comm]
      rw [List.foldr_cons]
      split
      · next hf =>
        rw [BitVec.getLsbD_or, ih, BitVec.getLsbD_twoPow, hk]
        rcases eq_or_ne l k with h | h
        · subst h; simp [hf, l.isLt]
        · simp [h]
      · next hf =>
        rw [ih]
        rcases eq_or_ne l k with h | h
        · subst h; simp [hf]
        · simp [h]
  unfold bitsOf
  rw [key]
  simp

end Sys2Proof
end

