-- ==== Sys2Proof/Laws/State.lean ====
section
/-! SUPPORT. What each update of State leaves in each field: one lemma per field per update. -/

namespace Sys2Proof.Machine

variable (s : State)

/-! ### State.setSpool -/

@[simp] theorem State.setSpool_inReset (i : SpoolNo) (sp : Spool) : (s.setSpool i sp).inReset = s.inReset := rfl
@[simp] theorem State.setSpool_mode (i : SpoolNo) (sp : Spool) : (s.setSpool i sp).mode = s.mode := rfl
@[simp] theorem State.setSpool_time (i : SpoolNo) (sp : Spool) : (s.setSpool i sp).time = s.time := rfl
@[simp] theorem State.setSpool_spools (i : SpoolNo) (sp : Spool) : (s.setSpool i sp).spools = s.spools.set i sp := rfl
@[simp] theorem State.setSpool_lines (i : SpoolNo) (sp : Spool) : (s.setSpool i sp).lines = s.lines := rfl
@[simp] theorem State.setSpool_wc (i : SpoolNo) (sp : Spool) : (s.setSpool i sp).wc = s.wc := rfl
@[simp] theorem State.setSpool_rc (i : SpoolNo) (sp : Spool) : (s.setSpool i sp).rc = s.rc := rfl
@[simp] theorem State.setSpool_groups (i : SpoolNo) (sp : Spool) : (s.setSpool i sp).groups = s.groups := rfl
@[simp] theorem State.setSpool_burst (i : SpoolNo) (sp : Spool) : (s.setSpool i sp).burst = s.burst := rfl
@[simp] theorem State.setSpool_cursors (i : SpoolNo) (sp : Spool) : (s.setSpool i sp).cursors = s.cursors := rfl
@[simp] theorem State.setSpool_link (i : SpoolNo) (sp : Spool) : (s.setSpool i sp).link = s.link := rfl
@[simp] theorem State.setSpool_notes (i : SpoolNo) (sp : Spool) : (s.setSpool i sp).notes = s.notes := rfl
@[simp] theorem State.setSpool_pending (i : SpoolNo) (sp : Spool) : (s.setSpool i sp).pending = s.pending := rfl

/-! ### State.setLine -/

@[simp] theorem State.setLine_inReset (l : LineNo) (ln : Line) : (s.setLine l ln).inReset = s.inReset := rfl
@[simp] theorem State.setLine_mode (l : LineNo) (ln : Line) : (s.setLine l ln).mode = s.mode := rfl
@[simp] theorem State.setLine_time (l : LineNo) (ln : Line) : (s.setLine l ln).time = s.time := rfl
@[simp] theorem State.setLine_spools (l : LineNo) (ln : Line) : (s.setLine l ln).spools = s.spools := rfl
@[simp] theorem State.setLine_lines (l : LineNo) (ln : Line) : (s.setLine l ln).lines = s.lines.set l ln := rfl
@[simp] theorem State.setLine_wc (l : LineNo) (ln : Line) : (s.setLine l ln).wc = s.wc := rfl
@[simp] theorem State.setLine_rc (l : LineNo) (ln : Line) : (s.setLine l ln).rc = s.rc := rfl
@[simp] theorem State.setLine_groups (l : LineNo) (ln : Line) : (s.setLine l ln).groups = s.groups := rfl
@[simp] theorem State.setLine_burst (l : LineNo) (ln : Line) : (s.setLine l ln).burst = s.burst := rfl
@[simp] theorem State.setLine_cursors (l : LineNo) (ln : Line) : (s.setLine l ln).cursors = s.cursors := rfl
@[simp] theorem State.setLine_link (l : LineNo) (ln : Line) : (s.setLine l ln).link = s.link := rfl
@[simp] theorem State.setLine_notes (l : LineNo) (ln : Line) : (s.setLine l ln).notes = s.notes := rfl
@[simp] theorem State.setLine_pending (l : LineNo) (ln : Line) : (s.setLine l ln).pending = s.pending := rfl

/-! ### State.setGroup -/

@[simp] theorem State.setGroup_inReset (g : GroupNo) (gr : Group) : (s.setGroup g gr).inReset = s.inReset := rfl
@[simp] theorem State.setGroup_mode (g : GroupNo) (gr : Group) : (s.setGroup g gr).mode = s.mode := rfl
@[simp] theorem State.setGroup_time (g : GroupNo) (gr : Group) : (s.setGroup g gr).time = s.time := rfl
@[simp] theorem State.setGroup_spools (g : GroupNo) (gr : Group) : (s.setGroup g gr).spools = s.spools := rfl
@[simp] theorem State.setGroup_lines (g : GroupNo) (gr : Group) : (s.setGroup g gr).lines = s.lines := rfl
@[simp] theorem State.setGroup_wc (g : GroupNo) (gr : Group) : (s.setGroup g gr).wc = s.wc := rfl
@[simp] theorem State.setGroup_rc (g : GroupNo) (gr : Group) : (s.setGroup g gr).rc = s.rc := rfl
@[simp] theorem State.setGroup_groups (g : GroupNo) (gr : Group) : (s.setGroup g gr).groups = s.groups.set g gr := rfl
@[simp] theorem State.setGroup_burst (g : GroupNo) (gr : Group) : (s.setGroup g gr).burst = s.burst := rfl
@[simp] theorem State.setGroup_cursors (g : GroupNo) (gr : Group) : (s.setGroup g gr).cursors = s.cursors := rfl
@[simp] theorem State.setGroup_link (g : GroupNo) (gr : Group) : (s.setGroup g gr).link = s.link := rfl
@[simp] theorem State.setGroup_notes (g : GroupNo) (gr : Group) : (s.setGroup g gr).notes = s.notes := rfl
@[simp] theorem State.setGroup_pending (g : GroupNo) (gr : Group) : (s.setGroup g gr).pending = s.pending := rfl

/-! ### State.setCursor -/

@[simp] theorem State.setCursor_inReset (c : CursorNo) (cu : Cursor) : (s.setCursor c cu).inReset = s.inReset := rfl
@[simp] theorem State.setCursor_mode (c : CursorNo) (cu : Cursor) : (s.setCursor c cu).mode = s.mode := rfl
@[simp] theorem State.setCursor_time (c : CursorNo) (cu : Cursor) : (s.setCursor c cu).time = s.time := rfl
@[simp] theorem State.setCursor_spools (c : CursorNo) (cu : Cursor) : (s.setCursor c cu).spools = s.spools := rfl
@[simp] theorem State.setCursor_lines (c : CursorNo) (cu : Cursor) : (s.setCursor c cu).lines = s.lines := rfl
@[simp] theorem State.setCursor_wc (c : CursorNo) (cu : Cursor) : (s.setCursor c cu).wc = s.wc := rfl
@[simp] theorem State.setCursor_rc (c : CursorNo) (cu : Cursor) : (s.setCursor c cu).rc = s.rc := rfl
@[simp] theorem State.setCursor_groups (c : CursorNo) (cu : Cursor) : (s.setCursor c cu).groups = s.groups := rfl
@[simp] theorem State.setCursor_burst (c : CursorNo) (cu : Cursor) : (s.setCursor c cu).burst = s.burst := rfl
@[simp] theorem State.setCursor_cursors (c : CursorNo) (cu : Cursor) : (s.setCursor c cu).cursors = s.cursors.set c cu := rfl
@[simp] theorem State.setCursor_link (c : CursorNo) (cu : Cursor) : (s.setCursor c cu).link = s.link := rfl
@[simp] theorem State.setCursor_notes (c : CursorNo) (cu : Cursor) : (s.setCursor c cu).notes = s.notes := rfl
@[simp] theorem State.setCursor_pending (c : CursorNo) (cu : Cursor) : (s.setCursor c cu).pending = s.pending := rfl

/-! ### State.setCursors -/

@[simp] theorem State.setCursors_inReset (cs : Vector Cursor 4) : (s.setCursors cs).inReset = s.inReset := rfl
@[simp] theorem State.setCursors_mode (cs : Vector Cursor 4) : (s.setCursors cs).mode = s.mode := rfl
@[simp] theorem State.setCursors_time (cs : Vector Cursor 4) : (s.setCursors cs).time = s.time := rfl
@[simp] theorem State.setCursors_spools (cs : Vector Cursor 4) : (s.setCursors cs).spools = s.spools := rfl
@[simp] theorem State.setCursors_lines (cs : Vector Cursor 4) : (s.setCursors cs).lines = s.lines := rfl
@[simp] theorem State.setCursors_wc (cs : Vector Cursor 4) : (s.setCursors cs).wc = s.wc := rfl
@[simp] theorem State.setCursors_rc (cs : Vector Cursor 4) : (s.setCursors cs).rc = s.rc := rfl
@[simp] theorem State.setCursors_groups (cs : Vector Cursor 4) : (s.setCursors cs).groups = s.groups := rfl
@[simp] theorem State.setCursors_burst (cs : Vector Cursor 4) : (s.setCursors cs).burst = s.burst := rfl
@[simp] theorem State.setCursors_cursors (cs : Vector Cursor 4) : (s.setCursors cs).cursors = cs := rfl
@[simp] theorem State.setCursors_link (cs : Vector Cursor 4) : (s.setCursors cs).link = s.link := rfl
@[simp] theorem State.setCursors_notes (cs : Vector Cursor 4) : (s.setCursors cs).notes = s.notes := rfl
@[simp] theorem State.setCursors_pending (cs : Vector Cursor 4) : (s.setCursors cs).pending = s.pending := rfl

/-! ### State.setPhase -/

@[simp] theorem State.setPhase_inReset (p : BurstPhase) : (s.setPhase p).inReset = s.inReset := rfl
@[simp] theorem State.setPhase_mode (p : BurstPhase) : (s.setPhase p).mode = s.mode := rfl
@[simp] theorem State.setPhase_time (p : BurstPhase) : (s.setPhase p).time = s.time := rfl
@[simp] theorem State.setPhase_spools (p : BurstPhase) : (s.setPhase p).spools = s.spools := rfl
@[simp] theorem State.setPhase_lines (p : BurstPhase) : (s.setPhase p).lines = s.lines := rfl
@[simp] theorem State.setPhase_wc (p : BurstPhase) : (s.setPhase p).wc = s.wc := rfl
@[simp] theorem State.setPhase_rc (p : BurstPhase) : (s.setPhase p).rc = s.rc := rfl
@[simp] theorem State.setPhase_groups (p : BurstPhase) : (s.setPhase p).groups = s.groups := rfl
@[simp] theorem State.setPhase_burst (p : BurstPhase) : (s.setPhase p).burst = { s.burst with phase := p } := rfl
@[simp] theorem State.setPhase_cursors (p : BurstPhase) : (s.setPhase p).cursors = s.cursors := rfl
@[simp] theorem State.setPhase_link (p : BurstPhase) : (s.setPhase p).link = s.link := rfl
@[simp] theorem State.setPhase_notes (p : BurstPhase) : (s.setPhase p).notes = s.notes := rfl
@[simp] theorem State.setPhase_pending (p : BurstPhase) : (s.setPhase p).pending = s.pending := rfl

/-! ### State.setRing -/

@[simp] theorem State.setRing_inReset (r : List RingEntry) : (s.setRing r).inReset = s.inReset := rfl
@[simp] theorem State.setRing_mode (r : List RingEntry) : (s.setRing r).mode = s.mode := rfl
@[simp] theorem State.setRing_time (r : List RingEntry) : (s.setRing r).time = s.time := rfl
@[simp] theorem State.setRing_spools (r : List RingEntry) : (s.setRing r).spools = s.spools := rfl
@[simp] theorem State.setRing_lines (r : List RingEntry) : (s.setRing r).lines = s.lines := rfl
@[simp] theorem State.setRing_wc (r : List RingEntry) : (s.setRing r).wc = s.wc := rfl
@[simp] theorem State.setRing_rc (r : List RingEntry) : (s.setRing r).rc = s.rc := rfl
@[simp] theorem State.setRing_groups (r : List RingEntry) : (s.setRing r).groups = s.groups := rfl
@[simp] theorem State.setRing_burst (r : List RingEntry) : (s.setRing r).burst = { s.burst with ring := r } := rfl
@[simp] theorem State.setRing_cursors (r : List RingEntry) : (s.setRing r).cursors = s.cursors := rfl
@[simp] theorem State.setRing_link (r : List RingEntry) : (s.setRing r).link = s.link := rfl
@[simp] theorem State.setRing_notes (r : List RingEntry) : (s.setRing r).notes = s.notes := rfl
@[simp] theorem State.setRing_pending (r : List RingEntry) : (s.setRing r).pending = s.pending := rfl

/-! ### State.setLink -/

@[simp] theorem State.setLink_inReset (l : Link) : (s.setLink l).inReset = s.inReset := rfl
@[simp] theorem State.setLink_mode (l : Link) : (s.setLink l).mode = s.mode := rfl
@[simp] theorem State.setLink_time (l : Link) : (s.setLink l).time = s.time := rfl
@[simp] theorem State.setLink_spools (l : Link) : (s.setLink l).spools = s.spools := rfl
@[simp] theorem State.setLink_lines (l : Link) : (s.setLink l).lines = s.lines := rfl
@[simp] theorem State.setLink_wc (l : Link) : (s.setLink l).wc = s.wc := rfl
@[simp] theorem State.setLink_rc (l : Link) : (s.setLink l).rc = s.rc := rfl
@[simp] theorem State.setLink_groups (l : Link) : (s.setLink l).groups = s.groups := rfl
@[simp] theorem State.setLink_burst (l : Link) : (s.setLink l).burst = s.burst := rfl
@[simp] theorem State.setLink_cursors (l : Link) : (s.setLink l).cursors = s.cursors := rfl
@[simp] theorem State.setLink_link (l : Link) : (s.setLink l).link = l := rfl
@[simp] theorem State.setLink_notes (l : Link) : (s.setLink l).notes = s.notes := rfl
@[simp] theorem State.setLink_pending (l : Link) : (s.setLink l).pending = s.pending := rfl

/-! ### State.setRx -/

@[simp] theorem State.setRx_inReset (rx : Receiver) : (s.setRx rx).inReset = s.inReset := rfl
@[simp] theorem State.setRx_mode (rx : Receiver) : (s.setRx rx).mode = s.mode := rfl
@[simp] theorem State.setRx_time (rx : Receiver) : (s.setRx rx).time = s.time := rfl
@[simp] theorem State.setRx_spools (rx : Receiver) : (s.setRx rx).spools = s.spools := rfl
@[simp] theorem State.setRx_lines (rx : Receiver) : (s.setRx rx).lines = s.lines := rfl
@[simp] theorem State.setRx_wc (rx : Receiver) : (s.setRx rx).wc = s.wc := rfl
@[simp] theorem State.setRx_rc (rx : Receiver) : (s.setRx rx).rc = s.rc := rfl
@[simp] theorem State.setRx_groups (rx : Receiver) : (s.setRx rx).groups = s.groups := rfl
@[simp] theorem State.setRx_burst (rx : Receiver) : (s.setRx rx).burst = s.burst := rfl
@[simp] theorem State.setRx_cursors (rx : Receiver) : (s.setRx rx).cursors = s.cursors := rfl
@[simp] theorem State.setRx_link (rx : Receiver) : (s.setRx rx).link = { s.link with rx } := rfl
@[simp] theorem State.setRx_notes (rx : Receiver) : (s.setRx rx).notes = s.notes := rfl
@[simp] theorem State.setRx_pending (rx : Receiver) : (s.setRx rx).pending = s.pending := rfl

/-! ### State.setClass -/

@[simp] theorem State.setClass_inReset (c : ClassNo) (nc : NoteClass) : (s.setClass c nc).inReset = s.inReset := rfl
@[simp] theorem State.setClass_mode (c : ClassNo) (nc : NoteClass) : (s.setClass c nc).mode = s.mode := rfl
@[simp] theorem State.setClass_time (c : ClassNo) (nc : NoteClass) : (s.setClass c nc).time = s.time := rfl
@[simp] theorem State.setClass_spools (c : ClassNo) (nc : NoteClass) : (s.setClass c nc).spools = s.spools := rfl
@[simp] theorem State.setClass_lines (c : ClassNo) (nc : NoteClass) : (s.setClass c nc).lines = s.lines := rfl
@[simp] theorem State.setClass_wc (c : ClassNo) (nc : NoteClass) : (s.setClass c nc).wc = s.wc := rfl
@[simp] theorem State.setClass_rc (c : ClassNo) (nc : NoteClass) : (s.setClass c nc).rc = s.rc := rfl
@[simp] theorem State.setClass_groups (c : ClassNo) (nc : NoteClass) : (s.setClass c nc).groups = s.groups := rfl
@[simp] theorem State.setClass_burst (c : ClassNo) (nc : NoteClass) : (s.setClass c nc).burst = s.burst := rfl
@[simp] theorem State.setClass_cursors (c : ClassNo) (nc : NoteClass) : (s.setClass c nc).cursors = s.cursors := rfl
@[simp] theorem State.setClass_link (c : ClassNo) (nc : NoteClass) : (s.setClass c nc).link = s.link := rfl
@[simp] theorem State.setClass_notes (c : ClassNo) (nc : NoteClass) : (s.setClass c nc).notes = { s.notes with classes := s.notes.classes.set c nc } := rfl
@[simp] theorem State.setClass_pending (c : ClassNo) (nc : NoteClass) : (s.setClass c nc).pending = s.pending := rfl

/-! ### State.setCredit -/

@[simp] theorem State.setCredit_inReset (n : Nat) : (s.setCredit n).inReset = s.inReset := rfl
@[simp] theorem State.setCredit_mode (n : Nat) : (s.setCredit n).mode = s.mode := rfl
@[simp] theorem State.setCredit_time (n : Nat) : (s.setCredit n).time = s.time := rfl
@[simp] theorem State.setCredit_spools (n : Nat) : (s.setCredit n).spools = s.spools := rfl
@[simp] theorem State.setCredit_lines (n : Nat) : (s.setCredit n).lines = s.lines := rfl
@[simp] theorem State.setCredit_wc (n : Nat) : (s.setCredit n).wc = s.wc := rfl
@[simp] theorem State.setCredit_rc (n : Nat) : (s.setCredit n).rc = s.rc := rfl
@[simp] theorem State.setCredit_groups (n : Nat) : (s.setCredit n).groups = s.groups := rfl
@[simp] theorem State.setCredit_burst (n : Nat) : (s.setCredit n).burst = s.burst := rfl
@[simp] theorem State.setCredit_cursors (n : Nat) : (s.setCredit n).cursors = s.cursors := rfl
@[simp] theorem State.setCredit_link (n : Nat) : (s.setCredit n).link = s.link := rfl
@[simp] theorem State.setCredit_notes (n : Nat) : (s.setCredit n).notes = { s.notes with credit := n } := rfl
@[simp] theorem State.setCredit_pending (n : Nat) : (s.setCredit n).pending = s.pending := rfl

/-! ### State.setMode -/

@[simp] theorem State.setMode_inReset (m : Mode) : (s.setMode m).inReset = s.inReset := rfl
@[simp] theorem State.setMode_mode (m : Mode) : (s.setMode m).mode = m := rfl
@[simp] theorem State.setMode_time (m : Mode) : (s.setMode m).time = s.time := rfl
@[simp] theorem State.setMode_spools (m : Mode) : (s.setMode m).spools = s.spools := rfl
@[simp] theorem State.setMode_lines (m : Mode) : (s.setMode m).lines = s.lines := rfl
@[simp] theorem State.setMode_wc (m : Mode) : (s.setMode m).wc = s.wc := rfl
@[simp] theorem State.setMode_rc (m : Mode) : (s.setMode m).rc = s.rc := rfl
@[simp] theorem State.setMode_groups (m : Mode) : (s.setMode m).groups = s.groups := rfl
@[simp] theorem State.setMode_burst (m : Mode) : (s.setMode m).burst = s.burst := rfl
@[simp] theorem State.setMode_cursors (m : Mode) : (s.setMode m).cursors = s.cursors := rfl
@[simp] theorem State.setMode_link (m : Mode) : (s.setMode m).link = s.link := rfl
@[simp] theorem State.setMode_notes (m : Mode) : (s.setMode m).notes = s.notes := rfl
@[simp] theorem State.setMode_pending (m : Mode) : (s.setMode m).pending = s.pending := rfl

/-! ### State.setTime -/

@[simp] theorem State.setTime_inReset (t : Nat) : (s.setTime t).inReset = s.inReset := rfl
@[simp] theorem State.setTime_mode (t : Nat) : (s.setTime t).mode = s.mode := rfl
@[simp] theorem State.setTime_time (t : Nat) : (s.setTime t).time = t := rfl
@[simp] theorem State.setTime_spools (t : Nat) : (s.setTime t).spools = s.spools := rfl
@[simp] theorem State.setTime_lines (t : Nat) : (s.setTime t).lines = s.lines := rfl
@[simp] theorem State.setTime_wc (t : Nat) : (s.setTime t).wc = s.wc := rfl
@[simp] theorem State.setTime_rc (t : Nat) : (s.setTime t).rc = s.rc := rfl
@[simp] theorem State.setTime_groups (t : Nat) : (s.setTime t).groups = s.groups := rfl
@[simp] theorem State.setTime_burst (t : Nat) : (s.setTime t).burst = s.burst := rfl
@[simp] theorem State.setTime_cursors (t : Nat) : (s.setTime t).cursors = s.cursors := rfl
@[simp] theorem State.setTime_link (t : Nat) : (s.setTime t).link = s.link := rfl
@[simp] theorem State.setTime_notes (t : Nat) : (s.setTime t).notes = s.notes := rfl
@[simp] theorem State.setTime_pending (t : Nat) : (s.setTime t).pending = s.pending := rfl

end Sys2Proof.Machine
end

