-- ==== Sys2Proof/Laws/Requests.lean ====
section
/-! SUPPORT. The taking of a request: what `awake`, `serve`, `withFields`, `inSetup`, `makeReady` and the field decoders
can do. -/

namespace Sys2Proof.Machine

/-! ### Fields -/

/-- Reading back a number written in `k` bytes. -/
theorem leValue_leBytes (k n : Nat) (h : n < 256 ^ k) : leValue (leBytes k n) = n := by
  induction k generalizing n with
  | zero => simp at h; simp [leBytes, leValue, h]
  | succ k ih =>
    have h' : n / 256 < 256 ^ k := Nat.div_lt_of_lt_mul (by rw [Nat.pow_succ] at h; omega)
    simp only [leBytes, leValue, ih _ h', BitVec.toNat_ofNat]
    omega

@[simp] theorem leBytes_length (k n : Nat) : (leBytes k n).length = k := by
  induction k generalizing n with
  | zero => rfl
  | succ k ih => simp [leBytes, ih]

/-- A field that stands between a prefix of known length and a rest. -/
theorem field_append (pre rest : List Byte) (k n : Nat) (h : n < 256 ^ k) :
    field (pre ++ (leBytes k n ++ rest)) pre.length k = n := by
  unfold field
  rw [List.drop_left, List.take_append_of_le_length (by simp), List.take_of_length_le (by simp), leValue_leBytes k n h]

/-- A number that names a resource. -/
theorem below_val {n : Nat} (i : Fin n) : below n i.val = some i := by simp [below, i.isLt]

/-- What `below` answers. -/
theorem below_eq_some {n k : Nat} {i : Fin n} : below n k = some i ↔ k = i.val := by
  unfold below
  split
  · constructor
    · intro h; cases h; rfl
    · intro h; subst h; rfl
  · constructor
    · intro h; cases h
    · intro h; exact absurd (h ▸ i.isLt) ‹_›

/-- What `inRange` answers. -/
theorem inRange_eq_some {lo hi k m : Nat} : inRange lo hi k = some m ↔ k = m ∧ lo ≤ k ∧ k ≤ hi := by
  unfold inRange
  split
  · next h => exact Iff.intro (fun e => ⟨Option.some.inj e, h⟩) (fun e => congrArg some e.1)
  · next h => exact Iff.intro (fun e => nomatch e) (fun e => absurd e.2 h)

/-- What `yesNo` answers. -/
theorem yesNo_eq_some {k : Nat} {b : Bool} : yesNo k = some b ↔ k = b.toNat := by
  unfold yesNo
  split
  · next h => subst h; cases b <;> simp
  · split
    · next h => subst h; cases b <;> simp
    · cases b <;> simp <;> omega

/-! ### The taking of a request -/

/-- While RSTn is high an event is taken. -/
theorem awake_running {f : State → State} {s : State} (h : s.inReset = false) : awake f s = f s := by simp [awake, h]

/-- While RSTn is low none is. -/
theorem awake_inReset {f : State → State} {s : State} (h : s.inReset = true) : awake f s = s := by simp [awake, h]

/-- Everything `serve` can do: take the oldest request where it is of the row, or nothing. -/
theorem serve_cases (row : Instr) (f : List Byte → State → State × Reply) (s : State) :
    (∃ r rest, s.link.intake = r :: rest ∧ r.row = row ∧
      serve row f s = makeReady r.tag r.code (f r.payload (s.setLink { s.link with intake := rest })).2
        (f r.payload (s.setLink { s.link with intake := rest })).1) ∨
    ((∀ r rest, s.link.intake = r :: rest → r.row ≠ row) ∧ serve row f s = s) := by
  unfold serve
  split
  · next r rest h =>
    split
    · next hr => exact .inl ⟨r, rest, h, hr, rfl⟩
    · next hr =>
      refine .inr ⟨fun r' rest' h' => ?_, rfl⟩
      obtain ⟨rfl, -⟩ := List.cons.inj (h.symm.trans h')
      exact hr
  · next h =>
    refine .inr ⟨fun r rest h' => ?_, rfl⟩
    exact nomatch h.symm.trans h'

/-- `serve` where the oldest request is of the row. -/
theorem serve_taken {row : Instr} {f : List Byte → State → State × Reply} {s : State} {r : Request}
    {rest : List Request} (h : s.link.intake = r :: rest) (hr : r.row = row) :
    serve row f s = makeReady r.tag r.code (f r.payload (s.setLink { s.link with intake := rest })).2
      (f r.payload (s.setLink { s.link with intake := rest })).1 := by
  simp [serve, h, hr]

/-- Everything `withFields` can do. -/
theorem withFields_cases {α : Type} (fields : Option α) (k : α → State → State × Reply) (s : State) :
    (∃ a, fields = some a ∧ withFields fields k s = k a s) ∨
      (fields = none ∧ withFields fields k s = (s, ⟨.badArgument, .empty⟩)) := by
  cases fields
  · exact .inr ⟨rfl, rfl⟩
  · exact .inl ⟨_, rfl, rfl⟩

@[simp] theorem withFields_some {α : Type} (a : α) (k : α → State → State × Reply) (s : State) :
    withFields (some a) k s = k a s := rfl

@[simp] theorem withFields_none {α : Type} (k : α → State → State × Reply) (s : State) :
    withFields none k s = (s, ⟨.badArgument, .empty⟩) := rfl

theorem inSetup_setup {k : State → State × Reply} {s : State} (h : s.mode = .setup) : inSetup k s = k s := by
  simp [inSetup, h]

theorem inSetup_other {k : State → State × Reply} {s : State} (h : s.mode ≠ .setup) :
    inSetup k s = (s, ⟨.wrongMode, .mode s.mode⟩) := by
  simp [inSetup, h, wrongMode]

/-- A reply whose body is not a READ's is one frame (R183). -/
theorem replyFrames_one (tag : Byte) (code : Option Byte) (r : Reply)
    (h : ∀ c rs p, r.body = .read c rs p → rs.length ≤ Config.recordsPerFrame) :
    replyFrames tag code r = [.reply tag code r true] := by
  unfold replyFrames
  split
  · next c rs p hb => rw [if_pos (h c rs p hb)]
  · rfl

/-- A reply is one frame or two, and only its last frame frees the tag (R141, R183). -/
theorem replyFrames_tags (tag : Byte) (code : Option Byte) (r : Reply) :
    (replyFrames tag code r).filterMap Frame.freesTag = [tag] ∧
      (replyFrames tag code r).filter Frame.isRefusal = [] := by
  unfold replyFrames
  split
  · split <;> exact ⟨rfl, rfl⟩
  · exact ⟨rfl, rfl⟩

/-- A request answered in one frame, the taking having done nothing to the link but the answer. -/
theorem makeReady_answered (s s1 : State) (tag : Byte) (payload : List Byte) (rest : List Request) (code : Byte) (st : Status)
    (body : Body) (hl : s1.link = { s.link with intake := rest })
    (hb : ∀ c rs p, body = .read c rs p → rs.length ≤ Config.recordsPerFrame) :
    makeReady tag (Request.code ⟨tag, code :: payload⟩) ⟨st, body⟩ s1
      = { s1 with link := s.link.answered tag rest [.reply tag (some code) ⟨st, body⟩ true] } := by
  simp only [makeReady, State.setLink, hl, Link.answered, setStage, Request.code, List.head?_cons,
    replyFrames_one tag (some code) ⟨st, body⟩ hb]

/-- `makeReady` touches only the reply queue and the outstanding set. -/
@[simp] theorem makeReady_eq (tag : Byte) (code : Option Byte) (r : Reply) (s : State) :
    makeReady tag code r s = { s with link := { s.link with
      replyQueue := s.link.replyQueue ++ replyFrames tag code r,
      outstanding := setStage tag .replying s.link.outstanding } } := rfl

/-- A stage change keeps the tags. -/
@[simp] theorem setStage_tags (tag : Byte) (st : Stage) (es : List Entry) :
    (setStage tag st es).map (·.tag) = es.map (·.tag) := by
  induction es with
  | nil => rfl
  | cons e es ih =>
    simp only [setStage, List.map_cons, List.map_map] at ih ⊢
    rw [ih]
    split <;> rfl

end Sys2Proof.Machine
end

