-- ==== Sys2Proof/Laws/Spools.lean ====
section
/-! SUPPORT. The store's operations on one spool: what each leaves. -/

namespace Sys2Proof.Machine

/-- What placing a record leaves (R13). -/
theorem Spool.place_numbers (sp : Spool) (d : Draft) :
    (sp.place d).held = sp.held ++ [sp.newRecord d] ∧ (sp.place d).nextSeq = sp.nextSeq + 1 ∧
      (sp.newRecord d).seq = sp.nextSeq ∧ (sp.place d).capacity = sp.capacity ∧ (sp.place d).policy = sp.policy ∧
      (sp.place d).threshold = sp.threshold ∧ (sp.place d).reservation = sp.reservation ∧ (sp.place d).pins = sp.pins ∧
      (sp.place d).tally = sp.tally ∧ (sp.place d).totalLost = sp.totalLost ∧ (sp.place d).nearFull = sp.nearFull ∧
      (sp.place d).erasing = sp.erasing :=
  ⟨rfl, rfl, rfl, rfl, rfl, rfl, rfl, rfl, rfl, rfl, rfl, rfl⟩

/-- What the removal of the `n` oldest records leaves (R17): everything but the records and the pins of segments gone. -/
theorem Spool.removeOldest_frame (sp : Spool) (n : Nat) :
    sp.removeOldest n = { sp with held := sp.held.drop n, pins := (sp.removeOldest n).pins } := rfl

theorem Spool.makeRoom_frame (sp : Spool) (k : Nat) :
    sp.makeRoom k = { sp with held := sp.held.drop (sp.overwriteCount k), pins := (sp.makeRoom k).pins } := rfl

/-- A loss leaves everything but the tally and total lost (R15). -/
theorem Spool.lose_frame (sp : Spool) (t : Nat) :
    sp.lose t = { sp with tally := (sp.lose t).tally, totalLost := satAdd max32 sp.totalLost 1 } := rfl

/-- A spool without a tally is left alone by settling. -/
theorem Spool.settle_none (sp : Spool) (now : Nat) (h : sp.tally = none) : sp.settle now = sp := by
  simp [Spool.settle, h]

/-- Everything an ordinary append can do (R12, R16). -/
theorem Spool.append_cases (sp : Spool) (now : Nat) (d : Draft) :
    (sp.enabled = false ∧ sp.append now d = { spool := sp, removed := [], placed := none, lost := false }) ∨
    (sp.enabled = true ∧ (sp.erasing.isSome = true ∨ sp.room 1 = false) ∧ sp.append now d = sp.appendLost d) ∨
    (sp.enabled = true ∧ sp.erasing = none ∧ sp.tally = none ∧ sp.room 1 = true ∧
      sp.append now d =
        { spool := (sp.makeRoom 1).place d, removed := sp.overwritten 1, placed := some sp.nextSeq, lost := false }) ∨
    (∃ ty, sp.enabled = true ∧ sp.erasing = none ∧ sp.tally = some ty ∧ sp.room 2 = true ∧
      sp.append now d =
        { spool := ((sp.makeRoom 2).settle now).place d, removed := sp.overwritten 2,
          placed := some ((sp.makeRoom 2).settle now).nextSeq, lost := false }) ∨
    (∃ ty, sp.enabled = true ∧ sp.erasing = none ∧ sp.tally = some ty ∧ sp.room 2 = false ∧ sp.room 1 = true ∧
      sp.append now d =
        { spool := ((sp.makeRoom 1).settle now).lose d.timestamp, removed := sp.overwritten 1, placed := none,
          lost := true }) := by
  unfold Spool.append
  by_cases h1 : sp.enabled = false
  · simp [h1]
  by_cases h2 : sp.erasing.isSome = true
  · simp [h1, h2]
  simp only [Option.isSome_iff_ne_none, ne_eq, not_not] at h2
  cases h3 : sp.tally <;> cases h4 : sp.room 1 <;> cases h5 : sp.room 2 <;> simp [h1, h2, h3, h4, h5]

/-- An ordinary append keeps the spool's configuration, its reservation and its erase state. -/
theorem Spool.append_keeps (sp : Spool) (now : Nat) (d : Draft) :
    (sp.append now d).spool.capacity = sp.capacity ∧ (sp.append now d).spool.policy = sp.policy ∧
      (sp.append now d).spool.threshold = sp.threshold ∧ (sp.append now d).spool.reservation = sp.reservation ∧
      (sp.append now d).spool.erasing = sp.erasing ∧ (sp.append now d).spool.nearFull = sp.nearFull := by
  have settle_keeps : ∀ q : Spool, (q.settle now).capacity = q.capacity ∧ (q.settle now).policy = q.policy ∧
      (q.settle now).threshold = q.threshold ∧ (q.settle now).reservation = q.reservation ∧
      (q.settle now).erasing = q.erasing ∧ (q.settle now).nearFull = q.nearFull := by
    intro q
    unfold Spool.settle
    split <;> exact ⟨rfl, rfl, rfl, rfl, rfl, rfl⟩
  obtain ⟨-, h⟩ | ⟨-, -, h⟩ | ⟨-, -, -, -, h⟩ | ⟨ty, -, -, -, -, h⟩ | ⟨ty, -, -, -, -, -, h⟩ := sp.append_cases now d
  all_goals rw [h]
  · exact ⟨rfl, rfl, rfl, rfl, rfl, rfl⟩
  · exact ⟨rfl, rfl, rfl, rfl, rfl, rfl⟩
  · exact ⟨rfl, rfl, rfl, rfl, rfl, rfl⟩
  · exact settle_keeps (sp.makeRoom 2)
  · exact settle_keeps (sp.makeRoom 1)

end Sys2Proof.Machine
end

