-- ==== Sys2Proof/Laws/Records.lean ====
section
/-! SUPPORT. The operations that record: raising a class, appends, laps, and the end of an event. For each, what it
leaves of the state outside the store (`StoreOnly`, `MidEffects` within the event, `SideEffects` at its end) and what
it does to each spool. -/

namespace Sys2Proof.Machine

theorem StoreOnly.refl (s : State) : StoreOnly s s := ⟨rfl, rfl, rfl, rfl, rfl⟩

theorem StoreOnly.trans {s t u : State} (h : StoreOnly s t) (k : StoreOnly t u) : StoreOnly s u :=
  ⟨k.mode.trans h.mode, k.time.trans h.time, k.lines.trans h.lines, k.groups.trans h.groups, k.burst.trans h.burst⟩

theorem Cursor.sameOrLapped.trans {a b c : Cursor} (h : a.sameOrLapped b) (k : b.sameOrLapped c) : a.sameOrLapped c := by
  obtain rfl | ⟨i, ⟨p, hp⟩, rfl⟩ := h
  · exact k
  · obtain rfl | ⟨j, ⟨q, hq⟩, -⟩ := k
    · exact .inr ⟨i, ⟨p, hp⟩, rfl⟩
    · obtain hq | ⟨n, f, hq⟩ := hq <;> cases hq

/-- As `SideEffects`, within an event: the link is as before (the STREAM_END frames join at the event's end). -/
structure MidEffects (raised : List ClassNo) (s t : State) : Prop where
  inReset : t.inReset = s.inReset
  chatter : t.wc = s.wc ∧ t.rc = s.rc
  pending : t.pending = s.pending
  cursors : ∀ c : CursorNo, s.cursors[c].sameOrLapped t.cursors[c]
  link : t.link = s.link
  credit : t.notes.credit = s.notes.credit
  classes : ∀ c : ClassNo, c ∉ raised → t.notes.classes[c] = s.notes.classes[c]
  occurrences : ∀ c : ClassNo,
    t.notes.classes[c] = { s.notes.classes[c] with pendingDetail := t.notes.classes[c].pendingDetail } ∧
      (s.notes.classes[c].enable = false → t.notes.classes[c] = s.notes.classes[c])

theorem MidEffects.refl (raised : List ClassNo) (s : State) : MidEffects raised s s where
  inReset := rfl
  chatter := ⟨rfl, rfl⟩
  pending := rfl
  cursors _ := .inl rfl
  link := rfl
  credit := rfl
  classes _ _ := rfl
  occurrences _ := ⟨rfl, fun _ => rfl⟩

theorem MidEffects.trans {raised : List ClassNo} {s t u : State} (h : MidEffects raised s t)
    (k : MidEffects raised t u) : MidEffects raised s u where
  inReset := k.inReset.trans h.inReset
  chatter := ⟨k.chatter.1.trans h.chatter.1, k.chatter.2.trans h.chatter.2⟩
  pending := k.pending.trans h.pending
  cursors c := (h.cursors c).trans (k.cursors c)
  link := k.link.trans h.link
  credit := k.credit.trans h.credit
  classes c hc := (k.classes c hc).trans (h.classes c hc)
  occurrences c := by
    refine ⟨?_, fun hd => ?_⟩
    · have := (k.occurrences c).1
      rw [(h.occurrences c).1] at this
      exact this
    · have he := (h.occurrences c).2 hd
      exact ((k.occurrences c).2 (he ▸ hd)).trans he

theorem MidEffects.mono {r r' : List ClassNo} {s t : State} (h : MidEffects r s t) (hr : ∀ c ∈ r, c ∈ r') :
    MidEffects r' s t :=
  { h with classes := fun c hc => h.classes c fun hm => hc (hr c hm) }

/-- A fold of steps that each have only side effects has only side effects. -/
theorem MidEffects.foldl {α : Type} {raised : List ClassNo} (f : State → α → State)
    (hf : ∀ s a, MidEffects raised s (f s a)) (as : List α) (s : State) : MidEffects raised s (as.foldl f s) := by
  induction as generalizing s with
  | nil => exact .refl _ _
  | cons a as ih => exact (hf s a).trans (ih _)

theorem StoreOnly.foldl {α : Type} (f : State → α → State) (hf : ∀ s a, StoreOnly s (f s a)) (as : List α) (s : State) :
    StoreOnly s (as.foldl f s) := by
  induction as generalizing s with
  | nil => exact .refl _
  | cons a as ih => exact (hf s a).trans (ih _)

/-! ### Raising -/

/-- What taking an occurrence leaves of a class (R194). -/
theorem NoteClass.take_frame (c : NoteClass) (d : Detail) :
    c.take d = { c with pendingDetail := (c.take d).pendingDetail } ∧ (c.enable = false → c.take d = c) := by
  unfold NoteClass.take
  split
  · next h => exact ⟨rfl, fun h' => absurd (h.symm.trans h') (by simp)⟩
  · exact ⟨rfl, fun _ => rfl⟩

@[simp] theorem raise_spools (c : ClassNo) (d : Detail) (s : State) : (raise c d s).spools = s.spools := rfl
@[simp] theorem raise_cursors (c : ClassNo) (d : Detail) (s : State) : (raise c d s).cursors = s.cursors := rfl
@[simp] theorem raise_link (c : ClassNo) (d : Detail) (s : State) : (raise c d s).link = s.link := rfl

theorem raise_storeOnly (c : ClassNo) (d : Detail) (s : State) : StoreOnly s (raise c d s) := ⟨rfl, rfl, rfl, rfl, rfl⟩

/-- What raising a class does to each class. -/
theorem raise_class (c k : ClassNo) (d : Detail) (s : State) :
    (raise c d s).notes.classes[k] = if c = k then s.notes.classes[k].take d else s.notes.classes[k] := by
  show (s.notes.classes.set c (s.notes.classes[c].take d))[k] = _
  rw [Vector_set_get]
  split
  · next h => subst h; rfl
  · rfl

theorem raise_effects (c : ClassNo) (d : Detail) (s : State) : MidEffects [c] s (raise c d s) where
  inReset := rfl
  chatter := ⟨rfl, rfl⟩
  pending := rfl
  cursors _ := .inl rfl
  link := rfl
  credit := rfl
  classes k hk := by
    rw [raise_class, if_neg fun h => hk (by simp [h])]
  occurrences k := by
    rw [raise_class]
    split
    · exact NoteClass.take_frame _ d
    · exact ⟨rfl, fun _ => rfl⟩

/-! ### Updates of one spool -/

theorem setSpool_effects (i : SpoolNo) (sp : Spool) (s : State) : MidEffects [] s (s.setSpool i sp) where
  inReset := rfl
  chatter := ⟨rfl, rfl⟩
  pending := rfl
  cursors _ := .inl rfl
  link := rfl
  credit := rfl
  classes _ _ := rfl
  occurrences _ := ⟨rfl, fun _ => rfl⟩

theorem setSpool_storeOnly (i : SpoolNo) (sp : Spool) (s : State) : StoreOnly s (s.setSpool i sp) :=
  ⟨rfl, rfl, rfl, rfl, rfl⟩

theorem setSpool_spool (i j : SpoolNo) (sp : Spool) (s : State) :
    (s.setSpool i sp).spools[j] = if i = j then sp else s.spools[j] := Vector_set_get _ _ _ _

/-! ### Laps -/

/-- What a removal leaves of a cursor (R146). -/
theorem Cursor.lap_sameOrLapped (i : SpoolNo) (removed : List Nat) (c : Cursor) : c.sameOrLapped (c.lap i removed) := by
  unfold Cursor.lap
  split
  · next sp p h =>
    split
    · next hc => exact .inr ⟨i, ⟨p, .inl (hc.1 ▸ h)⟩, rfl⟩
    · exact .inl rfl
  · next sp p n f h =>
    split
    · next hc => exact .inr ⟨i, ⟨p, .inr ⟨n, f, hc.1 ▸ h⟩⟩, rfl⟩
    · exact .inl rfl
  · exact .inl rfl

@[simp] theorem lapCursors_spools (i : SpoolNo) (removed : List Nat) (s : State) :
    (lapCursors i removed s).spools = s.spools := rfl

/-- The cursors after a removal. -/
theorem lapCursors_cursor (i : SpoolNo) (removed : List Nat) (s : State) (c : CursorNo) :
    (lapCursors i removed s).cursors[c] = s.cursors[c].lap i removed := mapV_get _ _ _

theorem lapCursors_storeOnly (i : SpoolNo) (removed : List Nat) (s : State) : StoreOnly s (lapCursors i removed s) :=
  ⟨rfl, rfl, rfl, rfl, rfl⟩

theorem lapCursors_effects (i : SpoolNo) (removed : List Nat) (s : State) :
    MidEffects [] s (lapCursors i removed s) where
  inReset := rfl
  chatter := ⟨rfl, rfl⟩
  pending := rfl
  cursors c := by rw [lapCursors_cursor]; exact Cursor.lap_sameOrLapped i removed _
  link := rfl
  credit := rfl
  classes _ _ := rfl
  occurrences _ := ⟨rfl, fun _ => rfl⟩

/-! ### Ordinary appends -/

/-- The spools after an ordinary append. -/
theorem append_spool (i j : SpoolNo) (d : Draft) (s : State) :
    (append i d s).1.spools[j] = if i = j then s.spools[i].appended s.time d else s.spools[j] := by
  unfold append Spool.appended
  dsimp only
  split <;> simp only [raise_spools, lapCursors_spools, setSpool_spool]

/-- Where an ordinary append placed its record. -/
theorem append_placed (i : SpoolNo) (d : Draft) (s : State) : (append i d s).2 = (s.spools[i].append s.time d).placed := rfl

theorem append_storeOnly (i : SpoolNo) (d : Draft) (s : State) : StoreOnly s (append i d s).1 := by
  unfold append
  dsimp only
  split <;> exact ⟨rfl, rfl, rfl, rfl, rfl⟩

theorem append_effects (i : SpoolNo) (d : Draft) (s : State) : MidEffects [lossClass] s (append i d s).1 := by
  unfold append
  dsimp only
  have base : ∀ sp rm, MidEffects [lossClass] s (lapCursors i rm (s.setSpool i sp)) := fun sp rm =>
    ((setSpool_effects i sp s).trans (lapCursors_effects i rm _)).mono fun _ h => nomatch h
  split
  · exact (base _ _).trans (raise_effects _ _ _)
  · exact base _ _

theorem appendTo_spool (i j : SpoolNo) (d : Draft) (s : State) :
    (appendTo i d s).spools[j] = if i = j then s.spools[i].appended s.time d else s.spools[j] := append_spool i j d s

theorem appendTo_storeOnly (i : SpoolNo) (d : Draft) (s : State) : StoreOnly s (appendTo i d s) := append_storeOnly i d s

theorem appendTo_effects (i : SpoolNo) (d : Draft) (s : State) : MidEffects [lossClass] s (appendTo i d s) :=
  append_effects i d s

theorem appendToAll_storeOnly (d : Draft) (s : State) : StoreOnly s (appendToAll d s) :=
  StoreOnly.foldl _ (fun s i => by split; exacts [appendTo_storeOnly i d s, .refl s]) _ s

theorem appendToAll_effects (d : Draft) (s : State) : MidEffects [lossClass] s (appendToAll d s) :=
  MidEffects.foldl _ (fun s i => by split; exacts [appendTo_effects i d s, .refl _ s]) _ s

/-- A disabled spool discards what is appended to it (R12). -/
theorem Spool.appended_disabled (sp : Spool) (now : Nat) (d : Draft) (h : sp.enabled = false) :
    sp.appended now d = sp := by
  simp [Spool.appended, Spool.append, h]

/-- Every enabled spool is asked for the record once (R69, R125); a disabled one discards it. -/
theorem appendToAll_spool (d : Draft) (s : State) (j : SpoolNo) :
    (appendToAll d s).spools[j] = s.spools[j].appended s.time d := by
  have key : ∀ (is : List SpoolNo) (u : State), is.Nodup →
      (is.foldl (fun s i => if s.spools[i].enabled then appendTo i d s else s) u).spools[j]
        = if j ∈ is then u.spools[j].appended u.time d else u.spools[j] := by
    intro is
    induction is with
    | nil => intro u _; simp
    | cons i is ih =>
      intro u hn
      obtain ⟨hi, hn⟩ := List.nodup_cons.1 hn
      rw [List.foldl_cons, ih _ hn]
      by_cases he : u.spools[i].enabled = true
      · simp only [he, if_true]
        rw [appendTo_spool, (appendTo_storeOnly i d u).time]
        by_cases hij : i = j
        · subst hij; simp [hi]
        · simp [hij, Ne.symm hij]
      · rw [if_neg he]
        by_cases hij : i = j
        · subst hij
          rw [if_neg hi, if_pos (List.mem_cons_self ..), Spool.appended_disabled _ _ _ (eq_false_of_ne_true he)]
        · have hji : ¬ j = i := fun e => hij e.symm
          simp only [List.mem_cons, hji, false_or]
  unfold appendToAll
  rw [key _ _ (List.nodup_finRange 4)]
  simp

/-! ### Direct placements -/

theorem placeDirect_storeOnly (i : SpoolNo) (d : Draft) (s : State) : StoreOnly s (placeDirect i d s) :=
  ⟨rfl, rfl, rfl, rfl, rfl⟩

theorem placeDirect_effects (i : SpoolNo) (d : Draft) (s : State) : MidEffects [] s (placeDirect i d s) :=
  (setSpool_effects i _ s).trans (lapCursors_effects i _ _)

theorem placeDirect_spool (i j : SpoolNo) (d : Draft) (s : State) :
    (placeDirect i d s).spools[j] = if i = j then (s.spools[i].makeRoom 1).place d else s.spools[j] :=
  setSpool_spool i j _ s

theorem setAside_storeOnly (i : SpoolNo) (s : State) : StoreOnly s (setAside i s) := ⟨rfl, rfl, rfl, rfl, rfl⟩

theorem setAside_effects (i : SpoolNo) (s : State) : MidEffects [] s (setAside i s) :=
  (setSpool_effects i _ s).trans (lapCursors_effects i _ _)

theorem setAside_spool (i j : SpoolNo) (s : State) :
    (setAside i s).spools[j] = if i = j then { s.spools[i].makeRoom 1 with reservation := true } else s.spools[j] :=
  setSpool_spool i j _ s

/-! ### The end of an event -/

/-- The frames that end the streams lapped by the event from `s0` to `s` (R153). -/
def lappedEnds (s0 s : State) : List Frame :=
  (List.finRange 4).filterMap fun c => (streamLapped s0 s c).map (Frame.streamEnd c)

/-- The STREAM_END frames of an event join the reply queue and nothing else happens (R153). -/
theorem endLappedStreams_eq (s0 s : State) :
    endLappedStreams s0 s = { s with link := { s.link with replyQueue := s.link.replyQueue ++ lappedEnds s0 s } } := by
  have key : ∀ (cs : List CursorNo) (u : State),
      cs.foldl (fun acc c => match streamLapped s0 s c with
        | some reason => pushFrame (.streamEnd c reason) acc
        | none => acc) u = { u with link := { u.link with
          replyQueue := u.link.replyQueue ++ cs.filterMap fun c => (streamLapped s0 s c).map (Frame.streamEnd c) } } := by
    intro cs
    induction cs with
    | nil => intro u; simp
    | cons c cs ih =>
      intro u
      rw [List.foldl_cons, ih]
      cases hc : streamLapped s0 s c <;> simp [hc, pushFrame, State.setLink]
  exact key _ s

/-- Where no erase starts, every lapped stream ends with reason LAPPED (R146, R153). -/
theorem lappedEnds_eq (s0 s : State) (h : ∀ i : SpoolNo, s.spools[i].erasing = s0.spools[i].erasing) :
    lappedEnds s0 s = streamsLapped s0 s := by
  unfold lappedEnds streamsLapped
  congr 1
  funext c
  unfold streamLapped
  cases s0.cursors[c].state <;> cases s.cursors[c].state <;> try rfl
  next i _ _ _ _ =>
    dsimp only
    rw [h i]
    cases s0.spools[i].erasing <;> rfl

theorem setNearFull_storeOnly (i : SpoolNo) (nf : NearFull) (s : State) : StoreOnly s (setNearFull i nf s) := by
  unfold setNearFull
  dsimp only
  split <;> exact ⟨rfl, rfl, rfl, rfl, rfl⟩

theorem setNearFull_effects (i : SpoolNo) (nf : NearFull) (s : State) :
    MidEffects [nearFullClass] s (setNearFull i nf s) := by
  unfold setNearFull
  dsimp only
  have base : ∀ sp, MidEffects [nearFullClass] s (s.setSpool i sp) := fun sp =>
    (setSpool_effects i sp s).mono fun _ h => nomatch h
  split
  · exact (base _).trans (raise_effects _ _ _)
  · exact base _

theorem setNearFull_spool (i j : SpoolNo) (nf : NearFull) (s : State) :
    (setNearFull i nf s).spools[j] = if i = j then { s.spools[i] with nearFull := nf } else s.spools[j] := by
  unfold setNearFull
  dsimp only
  split <;> simp only [raise_spools, setSpool_spool]

theorem evaluateNearFull_storeOnly (s0 s : State) : StoreOnly s (evaluateNearFull s0 s) :=
  StoreOnly.foldl _ (fun s i => by split; exacts [.refl s, setNearFull_storeOnly i _ s]) _ s

theorem evaluateNearFull_effects (s0 s : State) : MidEffects [nearFullClass] s (evaluateNearFull s0 s) :=
  MidEffects.foldl _ (fun s i => by split; exacts [.refl _ s, setNearFull_effects i _ s]) _ s

theorem evaluateNearFull_spool (s0 s : State) (j : SpoolNo) :
    (evaluateNearFull s0 s).spools[j] = Spool.atEventEnd s0.spools[j] s.spools[j] := by
  have key : ∀ (is : List SpoolNo) (u : State), is.Nodup →
      (is.foldl (fun acc i => if s0.spools[i].occupancy = acc.spools[i].occupancy then acc
          else setNearFull i acc.spools[i].nearFullAfterEvent acc) u).spools[j]
        = if j ∈ is then Spool.atEventEnd s0.spools[j] u.spools[j] else u.spools[j] := by
    intro is
    induction is with
    | nil => intro u _; simp
    | cons i is ih =>
      intro u hn
      obtain ⟨hi, hn⟩ := List.nodup_cons.1 hn
      rw [List.foldl_cons, ih _ hn]
      by_cases hij : i = j
      · subst hij
        simp only [hi, if_false, List.mem_cons, true_or, if_true, Spool.atEventEnd]
        split
        · rfl
        · rw [setNearFull_spool, if_pos rfl]
      · have hji : ¬ j = i := fun e => hij e.symm
        have hsame : (if s0.spools[i].occupancy = u.spools[i].occupancy then u
            else setNearFull i u.spools[i].nearFullAfterEvent u).spools[j] = u.spools[j] := by
          split
          · rfl
          · rw [setNearFull_spool, if_neg hij]
        rw [hsame]
        simp [hji]
  unfold evaluateNearFull
  rw [key _ _ (List.nodup_finRange 4)]
  simp

theorem closeEvent_storeOnly (s0 s : State) : StoreOnly s (closeEvent s0 s) := by
  have h : StoreOnly s (endLappedStreams s0 s) := by
    rw [endLappedStreams_eq]
    exact ⟨rfl, rfl, rfl, rfl, rfl⟩
  exact h.trans (evaluateNearFull_storeOnly s0 _)

/-- The spools at the end of an event (R24). -/
theorem closeEvent_spool (s0 s : State) (j : SpoolNo) :
    (closeEvent s0 s).spools[j] = Spool.atEventEnd s0.spools[j] s.spools[j] := by
  unfold closeEvent
  rw [evaluateNearFull_spool, endLappedStreams_eq]

theorem setNearFull_cursors (i : SpoolNo) (nf : NearFull) (s : State) : (setNearFull i nf s).cursors = s.cursors := by
  unfold setNearFull
  dsimp only
  split <;> rfl

theorem closeEvent_cursors (s0 s : State) : (closeEvent s0 s).cursors = s.cursors := by
  have key : ∀ (is : List SpoolNo) (u : State),
      (is.foldl (fun acc i => if s0.spools[i].occupancy = acc.spools[i].occupancy then acc
          else setNearFull i acc.spools[i].nearFullAfterEvent acc) u).cursors = u.cursors := by
    intro is
    induction is with
    | nil => intro u; rfl
    | cons i is ih =>
      intro u
      rw [List.foldl_cons, ih]
      split
      · rfl
      · exact setNearFull_cursors _ _ _
  unfold closeEvent evaluateNearFull
  rw [key, endLappedStreams_eq]

/-- The whole of an event that starts no erase: its own effects, then at its end the STREAM_END frames of the streams it
lapped and the near-full comparisons (R24, R153). -/
theorem closeEvent_effects {raised : List ClassNo} {s0 s : State} (h : MidEffects raised s0 s)
    (he : ∀ i : SpoolNo, s.spools[i].erasing = s0.spools[i].erasing) :
    SideEffects (nearFullClass :: raised) s0 (closeEvent s0 s) := by
  have k : MidEffects [nearFullClass] (endLappedStreams s0 s) (closeEvent s0 s) := evaluateNearFull_effects s0 _
  have e := endLappedStreams_eq s0 s
  have ends : streamsLapped s0 (closeEvent s0 s) = lappedEnds s0 s := by
    rw [lappedEnds_eq s0 s he]
    unfold streamsLapped
    rw [closeEvent_cursors]
  generalize hu : endLappedStreams s0 s = u at k e
  subst e
  exact {
    inReset := k.inReset.trans h.inReset
    chatter := ⟨k.chatter.1.trans h.chatter.1, k.chatter.2.trans h.chatter.2⟩
    pending := k.pending.trans h.pending
    cursors := fun c => (h.cursors c).trans (k.cursors c)
    link := by rw [k.link, ends]; show ({ s.link with replyQueue := _ } : Link) = _; rw [h.link]
    credit := k.credit.trans h.credit
    classes := fun c hc => (k.classes c fun hm => hc (by simp_all)).trans (h.classes c fun hm => hc (by simp_all))
    occurrences := fun c => by
      refine ⟨?_, fun hd => ?_⟩
      · have := (k.occurrences c).1
        rw [(h.occurrences c).1] at this
        exact this
      · have hq := (h.occurrences c).2 hd
        exact ((k.occurrences c).2 (hq ▸ hd)).trans hq }

end Sys2Proof.Machine
end

