-- ==== Sys2Proof/Laws/Evaluations.lean ====
section
/-! SUPPORT. The evaluations of a qualified change: what a group's member levels and verdict are, and that every change
has an `Evaluation`, the only one for its levels and verdicts. -/

namespace Sys2Proof.Machine

/-- The member levels of a group, line by line (R3). -/
@[simp] theorem memberLevels_getLsbD (lines : Vector Line 32) (g : GroupConfig) (m : LineNo) :
    (memberLevels lines g).getLsbD m.val = (g.members.getLsbD m.val && lines[m].qualified) := by
  unfold memberLevels qualifiedLevels
  rw [BitVec.getLsbD_and, bitsOf_getLsbD, Bool.and_comm]

/-- When every member stands at its reference level (R75). -/
theorem conforms_iff (lines : Vector Line 32) (g : GroupConfig) :
    conforms lines g = true ↔
      ∀ m : LineNo, g.members.getLsbD m.val = true → lines[m].qualified = g.reference.getLsbD m.val := by
  simp only [conforms, List.all_eq_true, List.mem_finRange, true_implies, Bool.or_eq_true, Bool.not_eq_true', beq_iff_eq]
  refine forall_congr' fun m => ⟨fun h hm => h.resolve_left (by simp [hm]), fun h => ?_⟩
  cases hm : g.members.getLsbD m.val
  · exact .inl rfl
  · exact .inr (h hm)

/-- The lines after a change show its level on its line and the old levels elsewhere. -/
def ShowsChange (lines : Vector Line 32) (s : State) (c : Change) (level : Bool) : Prop :=
  ∀ m : LineNo, lines[m].qualified = if m = c.line then level else s.lines[m].qualified

theorem showsChange_set (s : State) (c : Change) (level : Bool) (ln : Line) :
    ShowsChange (s.lines.set c.line { ln with qualified := level }) s c level := by
  intro m
  rw [Vector_set_get]
  by_cases h : c.line = m
  · subst h; simp
  · rw [if_neg h, if_neg fun e => h e.symm]

/-- The evaluation that the lines after a change give. -/
def Evaluation.ofLines (lines : Vector Line 32) (s : State) (d : GroupNo → Disposition × Option Nat) : Evaluation :=
  { levels := fun g => memberLevels lines s.groups[g].cfg, conforms := fun g => Sys2Proof.Machine.conforms lines s.groups[g].cfg,
    disposition := d }

theorem Evaluation.ofLines_ofChange {lines : Vector Line 32} {s : State} {c : Change} {level : Bool}
    (h : ShowsChange lines s c level) (d : GroupNo → Disposition × Option Nat) :
    (Evaluation.ofLines lines s d).ofChange s c level := by
  intro g
  refine ⟨fun m => ?_, ?_⟩
  · show (memberLevels lines s.groups[g].cfg).getLsbD m.val = _
    rw [memberLevels_getLsbD, h m]
  · show Sys2Proof.Machine.conforms lines s.groups[g].cfg = true ↔ _
    rw [conforms_iff]
    exact forall_congr' fun m => by rw [h m]

/-- The levels and verdicts of an evaluation are those of the lines after the change. -/
theorem Evaluation.ofChange_eq {e : Evaluation} {lines : Vector Line 32} {s : State} {c : Change} {level : Bool}
    (he : e.ofChange s c level) (h : ShowsChange lines s c level) (g : GroupNo) :
    e.levels g = memberLevels lines s.groups[g].cfg ∧ e.conforms g = Sys2Proof.Machine.conforms lines s.groups[g].cfg := by
  have k := Evaluation.ofLines_ofChange h e.disposition g
  refine ⟨BitVec.eq_of_getLsbD_eq fun i hi => ?_, Bool.eq_iff_iff.2 ((he g).2.trans k.2.symm)⟩
  exact ((he g).1 ⟨i, hi⟩).trans (k.1 ⟨i, hi⟩).symm

end Sys2Proof.Machine
end

