-- ==== Sys2Proof/WellFormed.lean ====
section
/-! DEFINITION. Which commands are well formed. Numbers of lines, groups, spools, cursors and classes are bounded by
their types; what is left to check is that the byte of a length fault is one (R162). -/

namespace Sys2Proof

/-- A length byte the receiver accepts: 2 to 250 (R160, R161). -/
def lengthByteOk (b : Byte) : Bool := 2 ≤ b.toNat && b.toNat ≤ 250

/-- A command is well formed: a LENGTH_FAULT carries a byte outside 2 to 250 (R162). -/
def Instr.wellFormed : Instr → Bool
  | .lengthFault b => !lengthByteOk b
  | _ => true

end Sys2Proof
end

