-- ==== Sys2Proof/Tests/Slice0.lean ====
section
/-! SUPPORT. The model's own tests: checks of single steps against values worked out from the manual, and for each
statement with hypotheses a `witness_` theorem, concrete states and operands that meet them, one for each clause. -/

namespace Sys2Proof.Machine

set_option Elab.async false

/-! ### Small states -/

/-- `s` with one request waiting in the intake, under tag 7. -/
def ask (p : List Byte) (s : State) : State :=
  { s with link := { s.link with intake := [⟨7, p⟩], outstanding := [⟨7, p.head?, .queued⟩] } }

/-- The state a command leaves. -/
def after (c : Instr) (s : State) : State :=
  match exec c s with
  | .next t => t
  | _ => s

/-- The state a step leaves. -/
def stepped (s : State) : State :=
  match step s with
  | .next t => t
  | _ => s

/-- The status of the newest reply waiting. -/
def State.status (s : State) : Option Status :=
  match s.link.replyQueue.getLast? with
  | some (.reply _ _ r _) => some r.status
  | some (.refusal _ _ st) => some st
  | _ => none

/-- The status the request `p` is answered with, taken as row `c`. -/
def answer (c : Instr) (p : List Byte) (s : State) : Option Status := (after c (ask p s)).status

/-- The status the request `p` is answered with, taken as the row it belongs to. -/
def reply (p : List Byte) (s : State) : Option Status := answer (Request.row ⟨7, p⟩) p s

def onSpool (i : SpoolNo) (f : Spool → Spool) (s : State) : State := { s with spools := s.spools.set i (f s.spools[i]) }
def onLine (l : LineNo) (f : Line → Line) (s : State) : State := { s with lines := s.lines.set l (f s.lines[l]) }
def onGroup (g : GroupNo) (f : Group → Group) (s : State) : State := { s with groups := s.groups.set g (f s.groups[g]) }
def withCursor (c : CursorNo) (st : CursorState) (s : State) : State :=
  { s with cursors := s.cursors.set c { s.cursors[c] with state := st } }
def onClass (n : ClassNo) (f : NoteClass → NoteClass) (s : State) : State :=
  { s with notes := { s.notes with classes := s.notes.classes.set n (f s.notes.classes[n]) } }
def withPhase (ph : BurstPhase) (s : State) : State := { s with burst := { s.burst with phase := ph } }
def withRx (rx : Receiver) (s : State) : State := { s with link := { s.link with rx } }
def withPath (f : Frame) (s : State) : State := { s with link := { s.link with path := some { frame := f, left := 0 } } }

/-- Records numbered from `seq` on, one for each segment number given. -/
def recordsFrom (seq : Nat) : List Nat → List Record
  | [] => []
  | g :: gs => { seq, seg := g, first := false, inBurst := false, draft := { body := .edge 0 true, timestamp := 5 } }
      :: recordsFrom (seq + 1) gs

/-- S0 holds one record for each segment number given, from sequence 1 on; the segment after the last is next. -/
def holding (segs : List Nat) (s : State) : State :=
  onSpool 0 (fun sp => { sp with
    held := recordsFrom 1 segs, nextSeq := 1 + segs.length, nextSeg := segs.foldl max 0 + 1 }) s

/-- The recorder after reset, with L0 enabled (STABLE, Q 0) and G0 enabled on it (reference 0, action BURST, route S0). -/
def configured : State :=
  onGroup 0 (fun g => { g with cfg := { g.cfg with enabled := true, members := 1, action := .burst } })
    (onLine 0 (fun l => { l with cfg := { l.cfg with enabled := true } }) State.reset)

/-- The same, ARMED: L0 QUIET at 0 and G0 CONFORMING. -/
def armed : State :=
  { onGroup 0 (fun g => { g with state := .conforming }) (onLine 0 (fun l => { l with state := .quiet }) configured) with
    mode := .armed, time := 1000 }

/-- A burst OPEN on S0, opened by G0. -/
def burst0 : OpenBurst := { id := 1, spool := 0, group := 0, t0 := 900, deadline := 1000900, timer := 1000000 }

/-- `armed` with `burst0` OPEN, its slot reserved in segment 1 of S0 with one record placed. -/
def bursting : State :=
  onSpool 0 (fun sp => { sp with reservation := true, current := some 1, burstSeg := true, segCount := 1 })
    (holding [1] (withPhase (.isOpen burst0) armed))

/-! ### Well-formedness, wire formats, the manual's examples -/

theorem test_ill_formed_refused : (Instr.lengthFault 2).wellFormed = false ∧ (Instr.lengthFault 250).wellFormed = false := by
  decide
theorem test_well_formed_accepted :
    (Instr.lengthFault 1).wellFormed ∧ (Instr.lengthFault 251).wellFormed ∧ (Instr.eraseCompletion 3).wellFormed := by decide
theorem test_no_row_has_bits : decodeTableWord 8 0 = none ∧ State.reset.withFetchWord 8 0 = State.reset := by decide +kernel

/-- R160: the codes 49 to 57 leave the register at 10673. -/
theorem test_crc_of_manual : crcOf [49, 50, 51, 52, 53, 54, 55, 56, 57] = 10673 := by decide +kernel

/-- Chapter 11, "Example: a TRIP record on the wire". -/
theorem test_trip_slot_of_manual :
    Record.slot { seq := 358, seg := 13, first := false, inBurst := true,
                  draft := { body := .trip 1 4 0x10 1 .opened (some 7), timestamp := 500000 } } =
      [0x02, 0x22, 0x0D, 0, 0, 0, 0x66, 0x01, 0, 0, 0, 0, 0x20, 0xA1, 0x07, 0, 0, 0, 1, 4, 0x10, 0, 0, 0, 1, 0, 1, 7, 0,
       0, 0, 0] := by decide +kernel

/-- R209: the body of a GET_STATUS reply has 227 bytes. -/
theorem test_status_body_length : (Body.status State.reset.statusReport).bytes.length = 227 := by decide +kernel

/-- 12.1 step 9: the group's disabled member is named, with check 2. -/
theorem test_disabled_member_named :
    armFailure (onGroup 2 (fun g => { g with cfg := { g.cfg with enabled := true, members := 0xC0 } })
      (onLine 6 (fun l => { l with cfg := { l.cfg with enabled := true } }) State.reset)) =
        some (.group 2 .disabledMember (some 7)) := by decide +kernel

/-! ### Steps and resets -/

theorem witness_step_takes_front : ({ State.reset with pending := [.rstnLow, .arm] } : State).pending = .rstnLow :: [.arm] := by
  decide +kernel

theorem witness_idle_step :
    stepped { State.reset with inReset := true } = { State.reset with inReset := true } ∧
    ((ask [0x21] State.reset).pending = [] ∧ (ask [0x21] State.reset).inReset = false ∧
      stepped (ask [0x21] State.reset) = after .getTime (ask [0x21] State.reset)) ∧
    (let s : State := { State.reset with link := { State.reset.link with replyQueue := [.streamEnd 0 .count] } }
     s.link.intake = [] ∧ canSend s = true ∧ (stepped s).link.path.isSome = true) ∧
    ownEvent State.reset = none ∧ (stepped State.reset).time = 1 := by decide +kernel

/-- Every timer running, none due: 1 µs off each, and the time base at its end. -/
def ticking : State :=
  let s := onLine 0 (fun l => { l with state := .settling 5 2, window := some 2 })
    (onLine 1 (fun l => { l with state := .lockout 2 }) (onLine 2 (fun l => { l with state := .suppressed 2 })
      (onSpool 3 (fun sp => { sp with erasing := some 2 }) (onClass 1 (fun c => { c with timer := some 2 })
        (withPhase (.isOpen { burst0 with timer := 2 }) armed)))))
  { s with time := max48, link := { s.link with rx := .length 2086, path := some ⟨.streamEnd 0 .count, 200000⟩ } }

theorem witness_time_passes :
    ownEvent ticking = none ∧ (stepped ticking).time = max48 ∧
    (stepped ticking).lines[(0 : LineNo)].state = .settling 5 1 ∧ (stepped ticking).lines[(0 : LineNo)].window = some 1 ∧
    (stepped ticking).lines[(1 : LineNo)].state = .lockout 1 ∧ (stepped ticking).lines[(2 : LineNo)].state = .suppressed 1 ∧
    (stepped ticking).spools[(3 : SpoolNo)].erasing = some 1 ∧ ((stepped ticking).notes.classes[(1 : ClassNo)]).timer = some 1 ∧
    (stepped ticking).burst.phase = .isOpen { burst0 with timer := 1 } ∧ (stepped ticking).link.rx = .length 2087 ∧
    (stepped ticking).link.path.map (·.left) = some 84800 := by decide +kernel

/-- R164: with no byte within 2 ms, and none that a start bit within them could still complete, the frame is given up. -/
theorem test_gap_is_forced :
    ownEvent (withRx (.length 2087) State.reset) = some .gapTimeout ∧
      (stepped (withRx (.length 2087) State.reset)).link.rx = .hunt ∧
      (stepped (withRx (.length 2086) State.reset)).link.rx = .length 2087 := by decide +kernel

theorem witness_void_commands :
    (Instr.isRequest .arm = true ∧ Request.row ⟨7, [0x21]⟩ ≠ .arm ∧
      after .arm (ask [0x21] State.reset) = ask [0x21] State.reset) ∧
    (∀ st : LineState, st = .settling 0 1 ∨ st = .lockout 1 ∨ st = .suppressed 1 →
      (onLine 0 (fun l => { l with state := st }) State.reset).lines[(0 : LineNo)].state = st) ∧
    (onLine 0 (fun l => { l with window := some 1 }) State.reset).lines[(0 : LineNo)].window = some 1 ∧
    after (.rawChange 3 false) State.reset = State.reset ∧
    ticking.link.path.map (·.left) = some 200000 ∧ after .transmissionCompletion ticking = ticking ∧
    (withRx (.length 1999) State.reset).link.rx.gap = some 1999 ∧
    after .gapTimeout (withRx (.length 1999) State.reset) = withRx (.length 1999) State.reset := by
  refine ⟨by decide +kernel, ?_, by decide +kernel, by decide +kernel, by decide +kernel, by decide +kernel,
    by decide +kernel, by decide +kernel⟩
  rintro st (rfl | rfl | rfl) <;> decide +kernel

theorem witness_pin_reset :
    let t := after (.pinReset 5 true false) bursting
    t.lines[(2 : LineNo)].qualified = true ∧ t.lines[(1 : LineNo)].pin = false ∧ t.link.speed = .b1000000 ∧
      t.spools[(0 : SpoolNo)].held = [] := by decide +kernel
theorem witness_power_on : (after (.powerOn 0 true true) bursting).link.speed = .b3000000 := by decide +kernel
theorem witness_held_low :
    (after .rstnLow armed).inReset = true ∧ Instr.isReset .arm = false ∧
      after .arm (after .rstnLow armed) = after .rstnLow armed := by decide +kernel

/-! ### The taking of requests -/

/-- The states below are out of reset, and `ask` leaves its request alone in the intake. -/
theorem witness_ask (p : List Byte) (s : State) : (ask p s).link.intake = ⟨7, p⟩ :: [] ∧ (ask p s).inReset = s.inReset :=
  ⟨rfl, rfl⟩
theorem witness_awake :
    State.reset.inReset = false ∧ configured.inReset = false ∧ armed.inReset = false ∧ bursting.inReset = false := by
  decide +kernel

theorem witness_failing_checks :
    (∀ p ∈ [[], [0xFF], [0x01, 0], [0x30], [0x47, 0, 0, 0, 0, 0]], (∀ e ∈ catalogue, p.head? = some e.1 → p.length ≠ e.2.1) ∧
      answer .badRequestTaken p State.reset = some .badRequest) ∧
    ∀ x ∈ ([(.cut, 0x30, 4, 0), (.release, 0x31, 4, 6), (.pin, 0x32, 4, 4), (.unpin, 0x33, 4, 4), (.erase, 0x34, 4, 0),
        (.getSpool, 0x35, 4, 0), (.setSpool, 0x14, 4, 5), (.listSegments, 0x47, 4, 5), (.openCursor, 0x40, 4, 8),
        (.closeCursor, 0x41, 4, 0), (.read, 0x42, 4, 1), (.space, 0x43, 4, 2), (.skip, 0x44, 4, 2), (.stream, 0x45, 4, 3),
        (.stopStream, 0x46, 4, 0), (.setLine, 0x10, 32, 6), (.setGroup, 0x12, 8, 14), (.setReference, 0x13, 8, 4),
        (.setNote, 0x16, 6, 4), (.ackNote, 0x51, 6, 1)] : List (Instr × Byte × Byte × Nat)),
      Request.row ⟨7, x.2.1 :: x.2.2.1 :: List.replicate x.2.2.2 0⟩ = x.1 ∧
        answer x.1 (x.2.1 :: x.2.2.1 :: List.replicate x.2.2.2 0) armed = some .badArgument := by decide +kernel

theorem witness_bad_fields :
    (∀ p ∈ [[0x10, 31, 32, 0, 0, 0, 0, 0], [0x10, 31, 0, 2, 0, 0, 0, 0], [0x10, 31, 0, 0, 0, 0, 0, 4],
        [0x12, 7, 4] ++ leBytes 8 1 ++ [0, 0, 0] ++ leBytes 2 1, [0x12, 7, 0] ++ leBytes 8 1 ++ [4, 0, 0] ++ leBytes 2 1,
        [0x12, 7, 0] ++ leBytes 8 1 ++ [0, 4, 0] ++ leBytes 2 1, [0x12, 7, 0] ++ leBytes 8 1 ++ [0, 0, 2] ++ leBytes 2 1,
        [0x12, 7, 0] ++ leBytes 8 1 ++ [0, 0, 0] ++ leBytes 2 0, [0x12, 7, 0] ++ leBytes 8 1 ++ [0, 0, 0] ++ leBytes 2 60001,
        [0x14, 3, 0, 0, 2, 0, 0], [0x14, 0, 65, 0, 0, 0, 0], [0x14, 0, 64, 0, 0, 65, 0], [0x14, 3, 64, 0, 0, 0, 0],
        [0x16, 5, 2, 0, 0, 0], [0x40, 3, 4, 0, 0, 0, 0, 0, 0, 0], [0x40, 3, 0, 5, 0, 0, 0, 0, 0, 0], [0x42, 3, 0],
        [0x42, 3, 9], [0x43, 3, 0, 0], [0x44, 3, 0, 0], [0x45, 3, 0, 0, 2], [0x47, 0, 0, 0, 0, 0, 0],
        [0x47, 0, 0, 0, 0, 0, 9]], reply p armed = some .badArgument) ∧
    BadField armed .setSpool ([0x14, 3] ++ leBytes 2 64 ++ [0] ++ leBytes 2 0) ∧
    BadField armed .setGroup ([0x12, 7, 0] ++ leBytes 4 (1 : LineSet).toNat ++ leBytes 4 (1 : LineSet).toNat ++ [0, 0, 0]
      ++ leBytes 2 60001) :=
  ⟨by decide +kernel,
   .setSpool 3 0 64 0 (by decide) (by decide) (.inr (.inr (.inr ⟨3, rfl, by decide +kernel⟩))),
   .setGroup 7 0 0 0 0 1 1 60001 (by decide) (by decide)⟩

theorem witness_named_spools :
    (∀ p ∈ [Payload.release 1 0, [0x34, 1], Payload.openCursor 0 1 .oldest, Payload.listSegments 1 0 1],
      reply p armed = some .spoolDisabled) ∧
    (∀ x ∈ [(Payload.release 0 max48, Status.spoolBusy), ([0x34, 0], .spoolBusy),
        (Payload.openCursor 3 0 (.seq max48), .spoolBusy), (Payload.listSegments 0 max32 8, .ok)],
      reply x.1 (onSpool 0 (fun sp => { sp with erasing := some 1 }) armed) = some x.2) ∧
    NamesSpool 1 .release 0x31 (Payload.release 1 0) ∧ NamesSpool 0 .listSegments 0x47 (Payload.listSegments 0 max32 8) :=
  ⟨by decide +kernel, by decide +kernel, .release 0 (by decide), .listSegments max32 8 (by decide) (by decide) (by decide)⟩

/-- LIST_SEGMENTS on an ERASING spool, below and above what it holds: an empty list; above, no segment follows. -/
theorem witness_list_while_erasing :
    (∀ x ∈ [(0, 1), (2, 8), (max32, 8)], answer .listSegments (Payload.listSegments 0 x.1 x.2)
      (onSpool 0 (fun sp => { sp with erasing := some 1 }) (holding [1, 2] armed)) = some .ok) ∧
    (∀ r ∈ (holding [1, 2] armed).spools[(0 : SpoolNo)].held, r.seg < 3) ∧
    (holding [1, 2] armed).spools[(0 : SpoolNo)].moreWhileErasing 3 = false := by decide +kernel

theorem witness_reports :
    answer .getTime [0x21] armed = some .ok ∧ answer .identify [0x62] armed = some .ok ∧
      answer .getStatus [0x60] armed = some .ok ∧ answer .getSpool [0x35, 4] armed = some .badArgument ∧
      answer .getSpool [0x35, 3] armed = some .ok ∧ answer .getSpool [0x35, 0] bursting = some .ok ∧
      answer .getCounters [0x61, 0] armed = some .ok ∧ answer .getCounters [0x61, 1] armed = some .ok ∧
      answer .getCounters [0x61, 2] armed = some .badArgument := by decide +kernel

theorem test_counters_cleared :
    (after .getCounters (ask [0x61, 1] (onGroup 3 (fun g => { g with tripCount := 9 }) armed))).groups[(3 : GroupNo)].tripCount
      = 0 := by decide +kernel

/-! ### Modes -/

theorem witness_arm :
    configured.mode = .setup ∧ answer .arm [0x01] configured = some .ok ∧
      (after .arm (ask [0x01] (onLine 0 (fun l => { l with pin := true }) configured))).groups[(0 : GroupNo)].state
        = .blocked := by decide +kernel

/-- A group with nothing to find fault with passes check 2 of R119. -/
theorem not_faulty {s : State} {g : GroupNo} (h : s.groups[g].cfg.enabled = true → s.groups[g].cfg.members ≠ 0 ∧
    (∀ l : LineNo, s.groups[g].cfg.members.getLsbD l.val = true → s.lines[l].cfg.enabled = true) ∧
    s.spools[s.groups[g].cfg.route].capacity ≠ 0) (f : ConfigFault) (m : Option LineNo) : ¬ GroupFaulty s g f m := by
  rintro (⟨he, hm⟩ | ⟨l, he, hl, -⟩ | ⟨he, -, -, hr⟩)
  · exact (h he).1 hm
  · exact Bool.noConfusion (hl.2.symm.trans ((h he).2.1 l hl.1))
  · exact (h he).2.2 hr

theorem witness_arm_passes : ∀ f, ¬ ArmFails configured f := by
  rintro _ (h | ⟨g, f, m, -, h, -⟩ | ⟨g, -, -, h, -⟩ | ⟨l, -, -, -, h, -⟩)
  · exact absurd (h 0) (by decide +kernel)
  · exact not_faulty (by clear h; revert g; decide +kernel) f m h
  · revert g; unfold WindowTooLong; decide +kernel
  · revert l; unfold LineUnrecordable; decide +kernel

def spoolless : State := onSpool 0 (fun sp => { sp with capacity := 0 }) configured
def memberless : State := onGroup 0 (fun g => { g with cfg := { g.cfg with members := 0 } }) configured
def strayMember : State := onGroup 0 (fun g => { g with cfg := { g.cfg with members := 0xC1 } }) configured
def strayRoute : State := onGroup 0 (fun g => { g with cfg := { g.cfg with route := 3 } }) configured
def longWindow : State := onGroup 0 (fun g => { g with cfg := { g.cfg with w := 10001 } }) configured
def strayLine : State := onLine 5 (fun l => { l with cfg := { l.cfg with enabled := true, k := 1, route := 3 } }) configured

/-- Each refusal of R119, with its subject (R120). -/
theorem witness_arm_fails :
    ArmFails spoolless .noSpool ∧ ArmFails memberless (.group 0 .noMembers none) ∧
    ArmFails strayMember (.group 0 .disabledMember (some 6)) ∧ ArmFails strayRoute (.group 0 .disabledRoute none) ∧
    ArmFails longWindow (.window 0 10001 10000) ∧ ArmFails strayLine (.line 5 3) :=
  ⟨.noSpool (by decide +kernel),
   .group 0 _ _ ⟨0, by decide +kernel⟩ (.noMembers (by decide +kernel) (by decide +kernel)) fun _ h => absurd h (Nat.not_lt_zero _),
   .group 0 _ _ ⟨0, by decide +kernel⟩ (.disabledMember 6 (by decide +kernel) (by decide +kernel) (by decide +kernel))
     fun _ h => absurd h (Nat.not_lt_zero _),
   .group 0 _ _ ⟨0, by decide +kernel⟩
     (.disabledRoute (by decide +kernel) (by decide +kernel) (by decide +kernel) (by decide +kernel))
     fun _ h => absurd h (Nat.not_lt_zero _),
   .window (s := longWindow) 0 ⟨0, by decide +kernel⟩ (fun g => not_faulty (by revert g; decide +kernel))
     (by unfold WindowTooLong; decide +kernel) fun _ h => absurd h (Nat.not_lt_zero _),
   .line (s := strayLine) 5 ⟨0, by decide +kernel⟩ (fun g => not_faulty (by revert g; decide +kernel))
     (by unfold WindowTooLong; decide +kernel) (by unfold LineUnrecordable; decide +kernel)
     (by unfold LineUnrecordable; decide +kernel)⟩

theorem witness_mode_refusals :
    answer .arm [0x01] armed = some .wrongMode ∧ answer .hold [0x02] configured = some .wrongMode ∧
      answer .resume [0x03] armed = some .wrongMode ∧ answer .disarm [0x04] configured = some .wrongMode ∧
      (∀ s ∈ [spoolless, memberless, strayMember, strayRoute, longWindow, strayLine],
        s.mode = .setup ∧ answer .arm [0x01] s = some .configInvalid) := by decide +kernel

theorem witness_hold_and_disarm :
    bursting.mode = .armed ∧ answer .hold [0x02] bursting = some .ok ∧ answer .hold [0x02] armed = some .ok ∧
      answer .disarm [0x04] bursting = some .ok ∧ answer .disarm [0x04] { armed with mode := .hold } = some .ok := by
  decide +kernel

/-- R122: the HELD MARK is placed before the MODE record. -/
theorem test_hold_marks_then_records_mode :
    ((after .hold (ask [0x02] bursting)).spools[(0 : SpoolNo)].held.drop 1).map (·.draft.body) =
      [.mark .held 1 (some 1), .mode .hold .hold] := by decide +kernel

theorem witness_resume :
    let s : State := { armed with mode := .hold }
    s.mode = .hold ∧ answer .resume [0x03] s = some .ok ∧
      (after .resume (ask [0x03] (onLine 0 (fun l => { l with qualified := true }) s))).groups[(0 : GroupNo)].state
        = .blocked := by decide +kernel

theorem witness_soft_reset :
    let t := after .reset (ask [0x05] bursting)
    t.mode = .setup ∧ t.burst.phase = .idle ∧ t.spools[(0 : SpoolNo)].reservation = false ∧
      t.spools[(0 : SpoolNo)].held.length = 1 := by decide +kernel

/-! ### Configuration -/

def lineSettings : LineConfig :=
  { enabled := true, invert := true, qualify := .latch, q := 65535, k := 255, logEdges := true, route := 3, lookback := true,
    capture := true }
def groupSettings (w : Nat) : GroupConfig :=
  { enabled := true, members := 0x80000001, reference := 0xFFFFFFFF, priority := 3, route := 3, action := .burst, w,
    pinOnBurst := true }

theorem witness_setup_settings :
    answer .setLine (Payload.setLine 31 lineSettings) State.reset = some .ok ∧
    answer .setLine (Payload.setLine 31 lineSettings) armed = some .wrongMode ∧
    answer .setGroup (Payload.setGroup 7 (groupSettings 1)) State.reset = some .ok ∧
    answer .setGroup (Payload.setGroup 7 (groupSettings 60000)) armed = some .wrongMode ∧
    (∀ x ∈ [(1, 10), (65535, 65535)], answer .setChatter (Payload.setChatter x.1 x.2) State.reset = some .ok) ∧
    (∀ x ∈ [(0, 10), (1, 9)], answer .setChatter (Payload.setChatter x.1 x.2) armed = some .badArgument) ∧
    (∀ b ∈ [(⟨60000, 1, 60000, 1000, 4⟩ : BurstSettings), ⟨0, 600000, 0, 0, 0⟩],
      answer .setBurst (Payload.setBurst b) State.reset = some .ok) ∧
    (∀ b ∈ [(⟨60001, 1, 0, 0, 0⟩ : BurstSettings), ⟨0, 0, 0, 0, 0⟩, ⟨0, 600001, 0, 0, 0⟩, ⟨0, 1, 60001, 0, 0⟩,
        ⟨0, 1, 0, 1001, 0⟩, ⟨0, 1, 0, 0, 5⟩],
      answer .setBurst (Payload.setBurst b) armed = some .badArgument) := by decide +kernel

theorem test_settings_stored :
    (after .setLine (ask (Payload.setLine 31 lineSettings) State.reset)).lines[(31 : LineNo)].cfg = lineSettings ∧
    (after .setGroup (ask (Payload.setGroup 7 (groupSettings 60000)) State.reset)).groups[(7 : GroupNo)].cfg =
      { groupSettings 60000 with reference := 0x80000001 } := by decide +kernel

theorem witness_set_reference :
    answer .setReference (Payload.setReference 0 1) configured = some .ok ∧
    (armed.mode = .armed ∧ armed.groups[(0 : GroupNo)].cfg.enabled = true) ∧
    (after .setReference (ask (Payload.setReference 0 0xFFFFFFFE) armed)).groups[(0 : GroupNo)].state = .conforming ∧
    (after .setReference (ask (Payload.setReference 0 1) armed)).groups[(0 : GroupNo)].state = .blocked := by decide +kernel

theorem witness_set_spool :
    (∀ x ∈ [(8128, Policy.halt, 8128), (0, .wrap, 0), (64, .halt, 0)],
      x.1 % 64 = 0 ∧ x.2.2 ≤ x.1 ∧
        x.1 + (((List.finRange 4).filter (· ≠ (0 : SpoolNo))).map fun j => State.reset.spools[j].capacity).sum ≤ 8192 ∧
        answer .setSpool (Payload.setSpool 0 x.1 x.2.1 x.2.2) State.reset = some .ok) ∧
    answer .setSpool (Payload.setSpool 0 64 .wrap 0) (holding [1] State.reset) = some .spoolNotEmpty ∧
    answer .setSpool (Payload.setSpool 0 8192 .halt 0) armed = some .wrongMode ∧
    answer .setSpool (Payload.setSpool 0 8192 .wrap 8192) armed = some .ok := by decide +kernel

/-- R7 and R9: more than 8192 slots are refused, and a lowered threshold crosses at once. -/
theorem test_set_spool_limits :
    answer .setSpool (Payload.setSpool 1 64 .halt 0) State.reset = some .badArgument ∧
    (after .setSpool (ask (Payload.setSpool 0 8192 .wrap 2) (holding [1, 1] armed))).spools[(0 : SpoolNo)].nearFull = .above := by
  decide +kernel

theorem witness_set_note :
    (∀ x ∈ [(5, 3, 0), (0, 0, 10), (5, 3, 10000)],
      answer .setNote ([0x16, byte x.1, 1, byte x.2.1] ++ leBytes 2 x.2.2) armed = some .ok) ∧
    (∀ x ∈ [(6, 3, 0), (0, 4, 10), (5, 3, 1), (5, 3, 9), (5, 3, 10001)],
      answer .setNote ([0x16, byte x.1, 1, byte x.2.1] ++ leBytes 2 x.2.2) armed = some .badArgument) ∧
    ((after .setNote (ask [0x16, 4, 0, 0, 0, 0]
      (onClass 4 (fun c => { c with enable := true, pendingDetail := some (.chatter 1) }) armed))).notes.classes[
        (4 : ClassNo)]).pendingDetail = none := by decide +kernel

theorem witness_set_time :
    configured.mode ≠ .armed ∧ answer .setTime (Payload.setTime max48) configured = some .ok ∧
    (after .setTime (ask (Payload.setTime max48) armed)).time = max48 ∧
    (after .setTime (ask (Payload.setTime max48) armed)).spools[(0 : SpoolNo)].held.map (·.draft.body) =
      [.timeStep 1000 max48] := by decide +kernel

/-! ### The store -/

def edgeDraft : Draft := { body := .edge 0 true, timestamp := 77 }
def tallied (n : Nat) (sp : Spool) : Spool := { sp with tally := some ⟨n, 10, 20⟩ }
/-- A spool of a few slots holding records of the segments given. -/
def smallSpool (capacity : Nat) (policy : Policy) (segs : List Nat) : Spool :=
  { Spool.atReset capacity policy 0 with held := recordsFrom 1 segs, nextSeq := 1 + segs.length, nextSeg := 9 }

theorem witness_append :
    edgeDraft.body.markInfo = none ∧
    (smallSpool 0 .halt []).capacity = 0 ∧
    ({ smallSpool 2 .wrap [] with erasing := some 5 }).erasing ≠ none ∧
    ((smallSpool 1 .halt [1]).room 1 = false ∧ (smallSpool 1 .halt [1]).capacity ≠ 0) ∧
    ((smallSpool 2 .halt [1]).room 1 = true ∧ (smallSpool 2 .halt [1]).tally = none) ∧
    (smallSpool 2 .wrap [1, 1]).room 1 = true ∧
    ((tallied 70000 (smallSpool 3 .halt [1])).room 2 = true) ∧
    ((tallied 70000 (smallSpool 2 .halt [1])).room 2 = false ∧ (tallied 70000 (smallSpool 2 .halt [1])).room 1 = true) := by
  decide +kernel

/-- Two cursors stream at the record an append overwrites: both are lapped, and their ends join in cursor order. -/
theorem test_append_laps_cursors :
    let s := withCursor 2 (.streaming 0 1 none true) (withCursor 1 (.streaming 0 1 (some 3) false)
      (withCursor 0 (.positioned 0 2) (onSpool 0 (fun _ => smallSpool 2 .wrap [1, 1]) armed)))
    (s.spools[(0 : SpoolNo)].append 1000 edgeDraft).removed = [1] ∧
    (append 0 edgeDraft s).1.cursors.toList.map (·.state) = [.positioned 0 2, .lapped 0, .lapped 0, .closed] ∧
    (closeEvent s (append 0 edgeDraft s).1).link.replyQueue = [.streamEnd 1 .lapped, .streamEnd 2 .lapped] := by
  decide +kernel

theorem test_append_overwrites_oldest :
    ((smallSpool 2 .wrap [1, 1]).appended 0 edgeDraft).held.map (·.seq) = [2, 3] := by decide +kernel
theorem test_append_stops_at_pin :
    ({ smallSpool 2 .wrap [1, 1] with pins := [1] }.appended 0 edgeDraft).tally = some ⟨1, 77, 77⟩ := by decide +kernel
theorem test_settling_loss_saturates :
    (((tallied 70000 (smallSpool 3 .halt [1])).appended 5 edgeDraft).held.map (·.draft.body)).drop 1 =
      [.loss 65535 10 20, .edge 0 true] := by decide +kernel

theorem witness_near_full :
    (let s := onSpool 0 (fun sp => { sp with threshold := 1 }) (holding [1] armed)
     (closeEvent armed s).spools[(0 : SpoolNo)].nearFull = .above) ∧
    (let s := onSpool 0 (fun sp => { sp with threshold := 1, nearFull := .above }) armed
     (closeEvent (holding [1] armed) s).spools[(0 : SpoolNo)].nearFull = .below) := by decide +kernel

theorem witness_cut :
    answer .cut [0x30, 1] armed = some .spoolDisabled ∧
    answer .cut [0x30, 0] (onSpool 0 (fun sp => { sp with erasing := some 1 }) armed) = some .spoolBusy ∧
    answer .cut [0x30, 0] bursting = some .burstActive ∧
    armed.spools[(0 : SpoolNo)].current = none ∧ answer .cut [0x30, 0] armed = some .ok ∧
    (∀ sp ∈ [smallSpool 1 .halt [1], tallied 1 (smallSpool 2 .halt [1])],
      answer .cut [0x30, 0] (onSpool 0 (fun _ => { sp with current := some 1 }) armed) = some .spoolFull) ∧
    (∀ sp ∈ [smallSpool 2 .halt [1], smallSpool 1 .wrap [1], tallied 1 (smallSpool 3 .halt [1]),
        tallied 1 (smallSpool 2 .wrap [1, 1])],
      answer .cut [0x30, 0] (onSpool 0 (fun _ => { sp with current := some 1, segCount := 1 }) armed) = some .ok) := by
  decide +kernel

theorem witness_release :
    (holding [1, 2] armed).spools[(0 : SpoolNo)].enabled = true ∧
    (∀ n ∈ [0, 1, 2, max48], answer .release (Payload.release 0 n) (holding [1, 2] armed) = some .ok) ∧
    (after .release (ask (Payload.release 0 max48)
      (onSpool 0 (fun sp => { sp with pins := [2] }) (holding [1, 2, 3] armed)))).spools[(0 : SpoolNo)].held.map (·.seq)
        = [2, 3] := by decide +kernel

theorem witness_pin_table :
    answer .pin ([0x32, 4] ++ leBytes 4 1) armed = some .badArgument ∧
    answer .unpin ([0x33, 4] ++ leBytes 4 1) armed = some .badArgument ∧
    answer .pin (Payload.pin 0x32 3 1) armed = some .spoolDisabled ∧
    answer .unpin (Payload.pin 0x33 3 1) armed = some .spoolDisabled ∧
    answer .pin (Payload.pin 0x32 0 1) (onSpool 0 (fun sp => { sp with erasing := some 1 }) armed) = some .spoolBusy ∧
    (∀ g ∈ [0, 2, max32], answer .pin (Payload.pin 0x32 0 g) (holding [1] armed) = some .noSuchSegment) ∧
    (let s := holding [1, 2, 3, 4, 5] armed
     answer .pin (Payload.pin 0x32 0 1) (onSpool 0 (fun sp => { sp with pins := [1] }) s) = some .ok ∧
     answer .pin (Payload.pin 0x32 0 5) (onSpool 0 (fun sp => { sp with pins := [1, 2, 3, 4] }) s) = some .pinTableFull ∧
     (after .pin (ask (Payload.pin 0x32 0 2) (onSpool 0 (fun sp => { sp with pins := [1, 3, 5] }) s))).spools[
        (0 : SpoolNo)].pins = [1, 2, 3, 5] ∧
     answer .unpin (Payload.pin 0x33 0 2) s = some .notPinned ∧
     answer .unpin (Payload.pin 0x33 0 2) (onSpool 0 (fun sp => { sp with pins := [2] }) s) = some .ok) := by decide +kernel

theorem witness_erase :
    (let t := after .erase (ask [0x34, 0] (withCursor 2 (.streaming 0 1 none true) bursting))
     bursting.spools[(0 : SpoolNo)].enabled = true ∧ bursting.spools[(0 : SpoolNo)].erasing = none ∧
       t.spools[(0 : SpoolNo)].erasing.isSome = true ∧ t.burst.phase = .idle ∧
       t.link.replyQueue = [.streamEnd 2 .erased] ∧ t.cursors[(2 : CursorNo)].state = .lapped 0) ∧
    (after .erase (ask [0x34, 0] (holding [1] armed))).spools[(0 : SpoolNo)].held.length = 1 := by decide +kernel

theorem witness_erase_completes :
    let s := after .erase (ask [0x34, 0] (holding [1] armed))
    s.spools[(0 : SpoolNo)].erasing ≠ none ∧ s.link.outstanding = [] ++ ⟨7, some 0x34, .erasing 0⟩ :: [] ∧
      (after (.eraseCompletion 0) s).status = some .ok ∧
      (after (.eraseCompletion 0) (onSpool 3 (fun sp => { sp with erasing := some 0 }) armed)).link.replyQueue = [] := by
  decide +kernel

/-! ### Readout -/

theorem witness_open_cursor :
    let s := withCursor 1 (.streaming 0 1 none true) (holding [3, 3, 4] armed)
    s.spools[(0 : SpoolNo)].enabled = true ∧ s.spools[(0 : SpoolNo)].erasing = none ∧
    (∀ x ∈ [(Start.oldest, 1), (.newest, 3), (.atEnd, 4), (.seq 2, 2), (.segment 4, 3)],
      (after .openCursor (ask (Payload.openCursor 1 0 x.1) s)).cursors[(1 : CursorNo)].state = .positioned 0 x.2) ∧
    (after .openCursor (ask (Payload.openCursor 1 0 .oldest) s)).link.replyQueue.head? = some (.streamEnd 1 .closed) ∧
    (∀ n ∈ [0, 4, max48], answer .openCursor (Payload.openCursor 1 0 (.seq n)) s = some .noSuchRecord) ∧
    (∀ g ∈ [0, 5, max32], answer .openCursor (Payload.openCursor 1 0 (.segment g)) s = some .noSuchSegment) ∧
    answer .openCursor (Payload.openCursor 1 0 .newest) armed = some .ok := by decide +kernel

theorem witness_close_stop_stream :
    (∀ x ∈ [(CursorState.closed, Status.ok, Status.noCursor), (.positioned 0 1, .ok, .ok), (.lapped 0, .ok, .ok),
        (.streaming 0 1 (some 2) false, .ok, .ok)],
      answer .closeCursor [0x41, 3] (withCursor 3 x.1 armed) = some x.2.1 ∧
        answer .stopStream [0x46, 3] (withCursor 3 x.1 armed) = some x.2.2) ∧
    ∀ n ∈ [0, 65535], (after .stream (ask (Payload.stream 3 n true) (withCursor 3 (.positioned 0 1) armed))).cursors[
      (3 : CursorNo)].state = .streaming 0 1 (if n = 0 then none else some n) true := by decide +kernel

/-- Eight records, consecutively numbered. -/
def eight : State := holding [1, 1, 1, 1, 2, 2, 3, 3] armed

theorem eight_consecutive : eight.spools[(0 : SpoolNo)].consecutive := by
  show ∀ k, ∀ h : k < eight.spools[(0 : SpoolNo)].held.length, _
  have h8 : ∀ k : Fin eight.spools[(0 : SpoolNo)].held.length,
      eight.spools[(0 : SpoolNo)].held[k].seq + (eight.spools[(0 : SpoolNo)].held.length - k.val) =
        eight.spools[(0 : SpoolNo)].nextSeq := by decide +kernel
  exact fun k h => h8 ⟨k, h⟩

theorem witness_read :
    eight.spools[(0 : SpoolNo)].enabled = true ∧ eight.spools[(0 : SpoolNo)].nextSeq = 9 ∧
    eight.spools[(0 : SpoolNo)].held.length = 8 ∧
    (∀ x ∈ [(0, 8, 2), (0, 7, 2), (2, 6, 1), (7, 1, 1), (7, 8, 1)],
      let t := after .read (ask [0x42, 0, byte x.2.1] (withCursor 0 (.positioned 0 (9 - (8 - x.1))) eight))
      t.status = some .ok ∧ t.link.replyQueue.length = x.2.2) ∧
    answer .read [0x42, 0, 1] (withCursor 0 (.positioned 0 9) eight) = some .atEnd := by decide +kernel

theorem witness_space :
    ∀ x ∈ ([(0, 8, .ok, 9), (0, 32767, .atEnd, 9), (8, 1, .atEnd, 9), (8, -8, .ok, 1), (8, -32768, .atOldest, 1),
        (0, -1, .atOldest, 1)] : List (Nat × Int × Status × Nat)),
      let t := after .space (ask (Payload.move 0x43 0 x.2.1) (withCursor 0 (.positioned 0 (9 - (8 - x.1))) eight))
      t.status = some x.2.2.1 ∧ t.cursors[(0 : CursorNo)].state = .positioned 0 x.2.2.2 := by decide +kernel

theorem witness_skip :
    (∀ x ∈ ([(1, 2, .ok, 7), (9, -1, .ok, 5), (8, -2, .ok, 1), (8, 1, .atEnd, 9), (1, 32767, .atEnd, 9),
        (9, -3, .atOldest, 1), (4, -32768, .atOldest, 1)] : List (Nat × Int × Status × Nat)),
      let t := after .skip (ask (Payload.move 0x44 0 x.2.1) (withCursor 0 (.positioned 0 x.1) eight))
      t.status = some x.2.2.1 ∧ t.cursors[(0 : CursorNo)].state = .positioned 0 x.2.2.2) ∧
    answer .skip (Payload.move 0x44 0 1) (withCursor 0 (.positioned 0 1) armed) = some .atEnd ∧
    answer .skip (Payload.move 0x44 0 (-1)) (withCursor 0 (.positioned 0 1) armed) = some .atOldest := by decide +kernel

theorem witness_cursor_checks :
    ∀ x ∈ [(Instr.read, [0x42, 0, 8]), (.space, Payload.move 0x43 0 (-32768)), (.skip, Payload.move 0x44 0 32767),
        (.stream, Payload.stream 0 65535 false)],
      answer x.1 x.2 armed = some .noCursor ∧
      answer x.1 x.2 (withCursor 0 (.positioned 3 1) armed) = some .spoolDisabled ∧
      answer x.1 x.2 (onSpool 0 (fun sp => { sp with erasing := some 1 }) (withCursor 0 (.lapped 0) armed))
        = some .spoolBusy ∧
      answer x.1 x.2 (withCursor 0 (.streaming 0 1 none true) armed) = some .cursorBusy ∧
      answer x.1 x.2 (withCursor 0 (.lapped 0) eight) = some .lapped ∧
      answer x.1 x.2 (withCursor 0 (.lapped 0) armed) = some .lapped := by decide +kernel

theorem witness_list_segments :
    (∀ x ∈ [(0, 1), (2, 8), (max32, 8)], answer .listSegments (Payload.listSegments 0 x.1 x.2) eight = some .ok) ∧
    (eight.spools[(0 : SpoolNo)].segEntries none 2).map (fun e => (e.number, e.firstHeld, e.lastHeld)) =
      [(2, 5, 6), (3, 7, 8)] ∧
    (bursting.spools[(0 : SpoolNo)].segEntries (some 1) 0).map (·.burstId) = [some 1] := by decide +kernel

/-! ### Notifications -/

theorem witness_credit_and_ack :
    (∀ n ∈ [1, 8], answer .credit [0x50, byte n] armed = some .ok) ∧
    (∀ n ∈ [0, 9], answer .credit [0x50, byte n] armed = some .badArgument) ∧
    (after .credit (ask [0x50, 8] { armed with notes := { armed.notes with credit := 3 } })).notes.credit = 8 ∧
    (let s := onClass 5 (fun c => { c with enable := true, outstanding := some (.linkFault 1), noteNumber := 255 }) armed
     answer .ackNote [0x51, 5, 255] s = some .ok ∧ answer .ackNote [0x51, 5, 254] s = some .staleNote) ∧
    answer .ackNote [0x51, 5, 0] armed = some .staleNote ∧ answer .ackNote [0x51, 6, 0] armed = some .badArgument := by
  decide +kernel

theorem witness_occurrences :
    NoteClass.atReset.enable = false ∧
    ({ NoteClass.atReset with enable := true }).pendingDetail = none ∧
    ({ NoteClass.atReset with enable := true, pendingDetail := some (.loss 1 65535) }.take (.loss 2 1)).pendingDetail
      = some (.loss 3 65535) := by decide +kernel

/-! ### Lines -/

/-- L0 with the state, Q, K and chatter count given. -/
def onLine0 (st : LineState) (qualify : QualifyMode) (q k count : Nat) (s : State) : State :=
  onLine 0 (fun l => { l with state := st, cfg := { l.cfg with qualify, q, k }, chatterCount := count }) s

theorem witness_raw_change :
    (State.reset.lines[(0 : LineNo)].state = .idle ∧
      (after (.rawChange 0 true) State.reset).lines[(0 : LineNo)].qualified = true) ∧
    (after (.rawChange 0 true) (onLine0 .quiet .stable 200 0 0 armed)).lines[(0 : LineNo)].state = .settling 1000 200 ∧
    (after (.rawChange 0 true) (onLine0 (.settling 1000 9) .stable 200 0 0 armed)).lines[(0 : LineNo)].state = .quiet ∧
    (let t := after (.rawChange 0 true) (onLine0 (.settling 1000 9) .stable 200 255 0 armed)
     t.lines[(0 : LineNo)].chatterCount = 1 ∧ t.lines[(0 : LineNo)].window = some 1000000) ∧
    (after (.rawChange 0 true) (onLine0 (.lockout 9) .latch 200 3 1 armed)).lines[(0 : LineNo)].chatterCount = 1 ∧
    (after (.rawChange 0 true) (onLine 0 (fun l => { l with qualified := true }) (onLine0 (.lockout 9) .latch 200 3 1 armed))
      ).lines[(0 : LineNo)].chatterCount = 2 ∧
    (after (.rawChange 0 true) (onLine0 (.suppressed 5) .stable 200 3 3 armed)).lines[(0 : LineNo)].state
      = .suppressed 1000000 := by decide +kernel

/-- L0 alone, no enabled group watching it. -/
def lone (m : Mode) (st : LineState) (qualify : QualifyMode) (q : Nat) (level : Bool) : State :=
  onLine 0 (fun l => { l with qualified := level }) (onLine0 st qualify q 0 0
    { onGroup 0 (fun g => { g with cfg := { g.cfg with enabled := false } }) armed with mode := m })

theorem lone_unwatched (m : Mode) (st : LineState) (qualify : QualifyMode) (q : Nat) (level : Bool) :
    watchedOnlyBy (lone m st qualify q level) 0 none := by
  have h : ∀ g : GroupNo,
      (onGroup 0 (fun g => { g with cfg := { g.cfg with enabled := false } }) armed).groups[g].cfg.enabled = false := by
    decide +kernel
  intro g _ hg
  exact absurd ((h g).symm.trans hg) (by decide)

/-- The five ways a qualified change comes about, on a line no group watches, ARMED or not. -/
theorem witness_accepts_stable :
    (∃ c level ln, Accepts (lone .hold .quiet .stable 0 false) (.rawChange 0 true) c level ln ∧ c.line = 0) ∧
    ∃ c level ln, Accepts (lone .armed .quiet .stable 0 false) (.rawChange 0 true) c level ln ∧
      watchedOnlyBy (lone .armed .quiet .stable 0 false) c.line none :=
  ⟨⟨_, _, _, .stable 0 true (by decide +kernel) (by decide +kernel) (by decide +kernel) (by decide +kernel), rfl⟩,
   ⟨_, _, _, .stable 0 true (by decide +kernel) (by decide +kernel) (by decide +kernel) (by decide +kernel),
    lone_unwatched _ _ _ _ _⟩⟩

theorem witness_accepts_latch :
    (∃ c level ln, Accepts (lone .hold .quiet .latch 0 false) (.rawChange 0 true) c level ln ∧ c.line = 0) ∧
    ∃ c level ln, Accepts (lone .armed .quiet .latch 65535 false) (.rawChange 0 true) c level ln ∧
      watchedOnlyBy (lone .armed .quiet .latch 65535 false) c.line none :=
  ⟨⟨_, _, _, .latch 0 true (by decide +kernel) (by decide +kernel) (by decide +kernel), rfl⟩,
   ⟨_, _, _, .latch 0 true (by decide +kernel) (by decide +kernel) (by decide +kernel), lone_unwatched _ _ _ _ _⟩⟩

theorem witness_accepts_settled :
    (∃ c level ln, Accepts (lone .hold (.settling 800 0) .stable 200 true) (.settlingTimerExpiry 0) c level ln ∧ c.line = 0) ∧
    ∃ c level ln, Accepts (lone .armed (.settling 800 0) .stable 200 true) (.settlingTimerExpiry 0) c level ln ∧
      watchedOnlyBy (lone .armed (.settling 800 0) .stable 200 true) c.line none :=
  ⟨⟨_, _, _, .settled 0 800 (by decide +kernel), rfl⟩,
   ⟨_, _, _, .settled 0 800 (by decide +kernel), lone_unwatched _ _ _ _ _⟩⟩

theorem witness_accepts_late :
    (∃ c level ln, Accepts (lone .hold (.lockout 0) .latch 200 true) (.lockoutExpiry 0) c level ln ∧ c.line = 0) ∧
    ∃ c level ln, Accepts (lone .armed (.lockout 0) .latch 200 true) (.lockoutExpiry 0) c level ln ∧
      watchedOnlyBy (lone .armed (.lockout 0) .latch 200 true) c.line none :=
  ⟨⟨_, _, _, .late 0 (by decide +kernel) (by decide +kernel), rfl⟩,
   ⟨_, _, _, .late 0 (by decide +kernel) (by decide +kernel), lone_unwatched _ _ _ _ _⟩⟩

theorem witness_accepts_released :
    (∃ c level ln, Accepts (lone .hold (.suppressed 0) .stable 200 true) (.releaseTimerExpiry 0) c level ln ∧ c.line = 0) ∧
    ∃ c level ln, Accepts (lone .armed (.suppressed 0) .latch 200 true) (.releaseTimerExpiry 0) c level ln ∧
      watchedOnlyBy (lone .armed (.suppressed 0) .latch 200 true) c.line none :=
  ⟨⟨_, _, _, .released 0 (by decide +kernel) (by decide +kernel), rfl⟩,
   ⟨_, _, _, .released 0 (by decide +kernel) (by decide +kernel), lone_unwatched _ _ _ _ _⟩⟩

/-- R56: the change carries t0, and a late change of a LATCH line is flagged (R59). -/
theorem test_change_timestamps :
    let log := fun s : State => onLine 0 (fun l => { l with cfg := { l.cfg with logEdges := true } }) s
    ((after (.settlingTimerExpiry 0) (log (lone .armed (.settling 800 0) .stable 200 true))).spools[(0 : SpoolNo)].held.map
      fun r => (r.draft.body, r.draft.timestamp, r.draft.late)) = [(.edge 0 false, 800, false)] ∧
    ((after (.lockoutExpiry 0) (log (lone .armed (.lockout 0) .latch 200 true))).spools[(0 : SpoolNo)].held.map
      fun r => (r.draft.body, r.draft.timestamp, r.draft.late)) = [(.edge 0 false, 1000, true)] := by decide +kernel

/-- `armed` with the group's action and state and L0's level given; only G0 watches L0. -/
def watched (action : Action) (st : GroupState) (level : Bool) : State :=
  onGroup 0 (fun g => { g with cfg := { g.cfg with action }, state := st })
    (onLine 0 (fun l => { l with pin := level, qualified := level }) armed)

theorem watched_only (action : Action) (st : GroupState) (level : Bool) :
    watchedOnlyBy (watched action st level) 0 (some 0) := by
  have h : ∀ action : Action, ∀ g : GroupNo, some g ≠ some (0 : GroupNo) →
      (watched action .off false).groups[g].cfg.enabled = false := by
    intro action; cases action <;> decide +kernel
  have h' : ∀ g : GroupNo, some g ≠ some (0 : GroupNo) →
      (watched action st level).groups[g] = (watched action .off false).groups[g] := by
    intro g hg
    have : (0 : Nat) ≠ g.val := fun e => hg (congrArg some (Fin.ext e.symm))
    simp [watched, onGroup, onLine, this]
  intro g hg he
  rw [h' g hg, h action g hg] at he
  cases he

/-- L0 changes to 1 at time 1000. -/
def rise : Change := ⟨0, 1000, false, false⟩

/-- The evaluation of `rise`, in which G0 is taken as `d` if it trips. -/
def riseFound (s : State) (d : Disposition × Option Nat) : Evaluation :=
  .ofLines (s.lines.set (0 : LineNo) { s.lines[(0 : LineNo)] with qualified := true }) s
    fun g => if g = 0 then d else (.none, none)

theorem riseFound_ofChange (s : State) (d : Disposition × Option Nat) : (riseFound s d).ofChange s rise true :=
  Evaluation.ofLines_ofChange (showsChange_set s rise true _) _

/-- Each change of a LOG group's state, and the premises of the statement. -/
theorem witness_group_log :
    (∃ ln, Accepts (watched .log .conforming false) (.rawChange 0 true) rise true ln) ∧
    (riseFound (watched .log .conforming false) (.none, none)).ofChange (watched .log .conforming false) rise true ∧
    (∀ g : GroupNo, (riseFound (watched .log .conforming false) (.none, none)).trips (watched .log .conforming false) rise g
        = true →
      (watched .log .conforming false).groups[g].cfg.action = .log ∧
        (riseFound (watched .log .conforming false) (.none, none)).disposition g = (.none, none)) ∧
    (∀ x ∈ [(GroupState.conforming, false, GroupState.tripped 1000), (.tripped 400, true, .conforming), (.blocked, true, .conforming),
        (.blocked, false, .blocked), (.tripped 400, false, .tripped 400)],
      (after (.rawChange 0 (!x.2.1)) (watched .log x.1 x.2.1)).groups[(0 : GroupNo)].state = x.2.2) :=
  ⟨⟨_, .stable 0 true (by decide +kernel) (by decide +kernel) (by decide +kernel) (by decide +kernel)⟩,
   riseFound_ofChange _ _, by decide +kernel, by decide +kernel⟩

/-- R65 and R76: EDGE, then the groups in ascending number: G0 trips, G1 (BURST, TRIPPED) has a CHANGE, G3 (BLOCKED) a
RESTORE. -/
theorem test_groups_in_order :
    let cfg : GroupConfig := { (watched .log .conforming false).groups[(0 : GroupNo)].cfg with action := .burst }
    ((after (.rawChange 0 true) (onGroup 3 (fun g => { g with cfg := { cfg with reference := 1 }, state := .blocked })
      (onGroup 1 (fun g => { g with cfg, state := .tripped 400 })
        (onLine 0 (fun l => { l with cfg := { l.cfg with logEdges := true } }) (watched .log .conforming false))))).spools[
      (0 : SpoolNo)].held.map (·.draft.body)) =
        [.edge 0 true, .trip 0 0 1 1 .none none, .change 1 0 1, .restore 3 0 1 none] := by decide +kernel

/-- R82: the divergence time of a RESTORE. -/
theorem test_restore_divergence :
    (after (.rawChange 0 false) (watched .log (.tripped 400) true)).spools[(0 : SpoolNo)].held.map (·.draft.body) =
      [.restore 0 0 0 (some 600)] := by decide +kernel

theorem witness_suppression :
    (∀ m ∈ [Mode.armed, .hold], ∀ x ∈ [(LineState.settling 900 5, true, QualifyMode.stable), (.lockout 5, true, .latch)],
      let s : State := { onLine 0 (fun l => { l with qualified := x.2.1 }) (onLine0 x.1 x.2.2 200 3 2 armed) with mode := m }
      s.lines[(0 : LineNo)].chatterCount + 1 = s.lines[(0 : LineNo)].cfg.k ∧
        (after (.rawChange 0 true) s).lines[(0 : LineNo)].state = .suppressed 1000000) ∧
    (∀ m ∈ [Mode.armed, .hold],
      let s : State := { onLine0 (.suppressed 0) .stable 200 3 3 armed with mode := m }
      s.lines[(0 : LineNo)].raw = s.lines[(0 : LineNo)].qualified ∧
        (after (.releaseTimerExpiry 0) s).lines[(0 : LineNo)].state = .quiet) := by decide +kernel

/-- R64: a release with another level writes CHATTER_END and then takes the change, flagged after-chatter. -/
theorem test_release_with_change :
    (after (.releaseTimerExpiry 0) (onLine 0 (fun l => { l with pin := true, cfg := { l.cfg with logEdges := true } })
      (onLine0 (.suppressed 0) .stable 200 3 3 (lone .armed .quiet .stable 200 false)))).spools[(0 : SpoolNo)].held.map
        (fun r => (r.draft.body, r.draft.afterChatter)) = [(.chatterEnd 0 true true, false), (.edge 0 true, true)] := by
  decide +kernel

theorem witness_timers :
    (after (.lockoutExpiry 0) (onLine0 (.lockout 0) .latch 5 0 0 armed)).lines[(0 : LineNo)].state = .quiet ∧
    (after (.chatterWindowExpiry 0) (onLine 0 (fun l => { l with window := some 0, chatterCount := 9 }) armed)).lines[
      (0 : LineNo)].chatterCount = 0 ∧
    (after .cooldownExpiry (withPhase (.cooldown 1 0 0 0) armed)).burst.phase = .idle ∧
    ((after (.acknowledgeTimerExpiry 5) (onClass 5 (fun c => { c with timer := some 0 }) armed)).notes.classes[
      (5 : ClassNo)]).resendDue = true := by decide +kernel

/-! ### Bursts -/

/-- The route of G0 and the burst phase given, with G0 about to trip on `rise`. -/
def tripping (sp : Spool) (ph : BurstPhase) (settings : BurstSettings) : State :=
  let s := onSpool 0 (fun _ => sp) (withPhase ph (watched .burst .conforming false))
  { s with burst := { s.burst with settings } }

theorem tripping_accepts (sp : Spool) (ph : BurstPhase) (set : BurstSettings) :
    ∃ ln, Accepts (tripping sp ph set) (.rawChange 0 true) rise true ln :=
  ⟨_, .stable (s := tripping sp ph set) 0 true
    (by show (watched .burst .conforming false).lines[(0 : LineNo)].state = _; decide +kernel)
    (by show (watched .burst .conforming false).lines[(0 : LineNo)].pin ≠ _; decide +kernel)
    (by show (watched .burst .conforming false).lines[(0 : LineNo)].cfg.qualify = _; decide +kernel)
    (by show (watched .burst .conforming false).lines[(0 : LineNo)].cfg.q = _; decide +kernel)⟩

/-- The group and its line meet the premises of the two burst statements. -/
theorem witness_burst_trip (sp : Spool) (ph : BurstPhase) (set : BurstSettings) :
    let s := tripping sp ph set
    s.inReset = false ∧ s.mode = .armed ∧ watchedOnlyBy s rise.line (some 0) ∧ s.groups[(0 : GroupNo)].state = .conforming ∧
      s.groups[(0 : GroupNo)].cfg.action = .burst ∧ s.groups[(0 : GroupNo)].cfg.enabled = true ∧
      s.groups[(0 : GroupNo)].cfg.members.getLsbD rise.line.val = true ∧
      ∃ m : LineNo, s.groups[(0 : GroupNo)].cfg.members.getLsbD m.val = true ∧
        (if m = rise.line then true else s.lines[m].qualified) ≠ s.groups[(0 : GroupNo)].cfg.reference.getLsbD m.val :=
  have h : (watched .burst .conforming false).groups[(0 : GroupNo)].cfg.members.getLsbD 0 = true ∧
      (watched .burst .conforming false).groups[(0 : GroupNo)].cfg.reference.getLsbD 0 = false ∧
      (watched .burst .conforming false).groups[(0 : GroupNo)].state = .conforming ∧
      (watched .burst .conforming false).groups[(0 : GroupNo)].cfg.action = .burst ∧
      (watched .burst .conforming false).groups[(0 : GroupNo)].cfg.enabled = true := by decide +kernel
  ⟨rfl, rfl, watched_only .burst .conforming false, h.2.2.1, h.2.2.2.1, h.2.2.2.2, h.1, 0, h.1,
    fun e => by have := h.2.1.symm.trans e.symm; cases this⟩

/-- What the opening needs: an empty spool; one that is full, with a segment open and a tally, under WRAP; breaking
through a cooldown. -/
theorem witness_burst_opens :
    ∀ x ∈ [(smallSpool 64 .halt [], BurstPhase.idle, (⟨0, 10000, 0, 0, 4⟩ : BurstSettings)),
        ({ tallied 70000 (smallSpool 6 .wrap [1, 1, 1, 1, 1, 1]) with current := some 1 }, .idle, ⟨0, 10000, 0, 1000, 4⟩),
        (smallSpool 64 .wrap [1], .cooldown 1 0 0 5, ⟨0, 600000, 0, 0, 0⟩)],
      let s := tripping x.1 x.2.1 x.2.2
      let sp := changeSpool s rise true 0
      (s.burst.phase = .idle ∨ s.burst.phase = .cooldown 1 0 0 5 ∧ s.burst.settings.p ≤ s.groups[(0 : GroupNo)].cfg.priority) ∧
      s.burst.ring.length ≤ 16 ∧ s.spools[(0 : SpoolNo)].enabled = true ∧ s.spools[(0 : SpoolNo)].erasing = none ∧
      s.spools[(0 : SpoolNo)].reservation = false ∧
      sp.room ((if sp.current = none then 0 else 1) + 2 + (if sp.tally = none then 0 else 1) + 1) true = true ∧
      rise.time + 1000 * min s.groups[(0 : GroupNo)].cfg.w s.burst.settings.m ≤ max48 ∧
      (after (.rawChange 0 true) s).burst.phase.open?.isSome = true := by decide +kernel

/-- R22 and R101: an opening on a full WRAP spool with an open segment and a tally. -/
theorem test_burst_opens_over_tally :
    let t := after (.rawChange 0 true) (tripping
      { tallied 70000 (smallSpool 6 .wrap [1, 1, 1, 1, 1, 1]) with current := some 1 } .idle ⟨0, 10000, 0, 1000, 4⟩)
    t.spools[(0 : SpoolNo)].held.map (fun r => (r.seq, r.draft.body)) =
        [(6, .edge 0 true), (7, .mark .burstStart 0 none), (8, .burstOpen 1 0 1001000 0), (9, .loss 65535 10 20),
         (10, .trip 0 0 1 1 .opened (some 1))] ∧
      t.spools[(0 : SpoolNo)].tally = none := by decide +kernel

/-- R99 to R102: a burst opens beside an open segment, with its lookback entry. -/
theorem test_burst_opens :
    let s := onSpool 0 (fun sp => { sp with current := some 1, segCount := 1 }) (holding [1] (watched .burst .conforming false))
    let t := after (.rawChange 0 true) { s with burst := { s.burst with
      settings := ⟨0, 10000, 0, 1, 4⟩, ring := [⟨8, true, 500, false, false⟩] } }
    (t.spools[(0 : SpoolNo)].held.drop 1).map (fun r => (r.seg, r.draft.body)) =
        [(1, .mark .burstStart 1 none), (2, .burstOpen 1 0 1001000 1), (2, .trip 0 0 1 1 .opened (some 1)),
         (2, .edge 8 true)] ∧
      t.burst.nextId = 2 ∧ t.burst.ring = [] ∧ t.spools[(0 : SpoolNo)].reservation = true := by decide +kernel

/-- The burst phase before G0's trip, and from it on. -/
def phases (before then' : BurstPhase) : Nat → BurstPhase
  | 0 => before
  | _ + 1 => then'

theorem tripping_spoolAt (sp : Spool) (ph : BurstPhase) (set : BurstSettings) (d : Disposition × Option Nat) :
    (riseFound (tripping sp ph set) d).spoolAt (tripping sp ph set) rise true 0
      (tripping sp ph set).groups[(0 : GroupNo)].cfg.route = sp := rfl

/-- Where G0's trip is taken as `d`, the premises of the statement on the eight groups hold. -/
theorem tripping_premises (sp : Spool) (ph ph' : BurstPhase) (set : BurstSettings) (d : Disposition × Option Nat)
    (h : TripTaken set (watched .burst .conforming false).groups[(0 : GroupNo)].cfg sp rise.time ph d ph') (g : GroupNo) :
    let s := tripping sp ph set
    let e := riseFound s d
    (e.trips s rise g = true → s.groups[g].cfg.action = .burst →
      TripTaken s.burst.settings s.groups[g].cfg (e.spoolAt s rise true g s.groups[g].cfg.route) rise.time
        (phases ph ph' g.val) (e.disposition g) (phases ph ph' (g.val + 1))) ∧
    (e.trips s rise g = true → s.groups[g].cfg.action = .log → e.disposition g = (.none, none)) ∧
    (¬ (e.trips s rise g = true ∧ s.groups[g].cfg.action = .burst) → phases ph ph' (g.val + 1) = phases ph ph' g.val) := by
  have w := witness_burst_trip sp ph set
  have off : ∀ k : GroupNo, k ≠ 0 → (riseFound (tripping sp ph set) d).trips (tripping sp ph set) rise k = false := by
    intro k hk
    have : (watched .burst .conforming false).groups[k].cfg.enabled = false := by revert k; decide +kernel
    show (Evaluation.covers (tripping sp ph set) rise k && _ && _) = false
    have hc : Evaluation.covers (tripping sp ph set) rise k = false := by
      show ((watched .burst .conforming false).groups[k].cfg.enabled && _) = false
      rw [this, Bool.false_and]
    rw [hc, Bool.false_and, Bool.false_and]
  by_cases hg : g = 0
  · subst hg
    refine ⟨fun _ _ => tripping_spoolAt sp ph set d ▸ h, fun _ ha => absurd (w.2.2.2.2.1.symm.trans ha) (by decide), fun hn => absurd ⟨?_, w.2.2.2.2.1⟩ hn⟩
    show (riseFound (watched .burst .conforming false) (.none, none)).trips (watched .burst .conforming false) rise 0 = true
    decide +kernel
  · refine ⟨fun ht => absurd ((off g hg).symm.trans ht) Bool.false_ne_true,
      fun ht => absurd ((off g hg).symm.trans ht) Bool.false_ne_true, fun _ => ?_⟩
    obtain ⟨n, hn⟩ : ∃ n, g.val = n + 1 := ⟨g.val - 1, by have : g.val ≠ 0 := fun e => hg (Fin.ext e); omega⟩
    rw [hn]
    rfl

/-- Each disposition that opens no burst: EXTENDED, SUPPRESSED, and REFUSED for an ERASING or a full route. -/
theorem witness_burst_trip_otherwise :
    let cfg := (watched .burst .conforming false).groups[(0 : GroupNo)].cfg
    TripTaken ⟨600, 10000, 0, 0, 4⟩ cfg (smallSpool 64 .halt []) rise.time (.isOpen burst0) (.extended, some 1)
      (.isOpen { burst0 with deadline := 1000900, timer := 1000000 }) ∧
    TripTaken ⟨60000, 600000, 0, 0, 4⟩ cfg (smallSpool 64 .halt []) rise.time (.isOpen burst0) (.extended, some 1)
      (.isOpen { burst0 with deadline := 60001000, timer := 60000100 }) ∧
    TripTaken ⟨0, 1, 0, 0, 4⟩ cfg (smallSpool 64 .halt []) rise.time (.cooldown 1 0 0 5) (.suppressed, none)
      (.cooldown 1 0 0 5) ∧
    TripTaken ⟨0, 1, 0, 0, 4⟩ cfg { smallSpool 64 .halt [] with erasing := some 9 } rise.time .idle (.refused, none) .idle ∧
    TripTaken ⟨0, 1, 0, 0, 0⟩ cfg (smallSpool 2 .halt []) rise.time (.cooldown 1 0 0 5) (.refused, none) .idle :=
  ⟨.extended burst0 _ (by decide) (by decide), .extended burst0 60001000 (by decide) (by decide),
   .suppressed 1 0 0 5 (by decide +kernel), .refused _ (.inl rfl) (.inl (by decide)),
   .refused _ (.inr ⟨1, 0, 0, 5, rfl, Nat.zero_le _⟩) (.inr (by decide +kernel))⟩

theorem test_dispositions :
    ∀ x ∈ [(BurstPhase.isOpen burst0, smallSpool 64 .halt [], (⟨600, 10000, 0, 0, 4⟩ : BurstSettings), Disposition.extended),
        (.cooldown 1 0 0 5, smallSpool 64 .halt [], ⟨0, 1, 0, 0, 4⟩, .suppressed),
        (.idle, smallSpool 2 .halt [], ⟨0, 1, 0, 0, 4⟩, .refused),
        (.cooldown 1 0 0 5, smallSpool 2 .halt [], ⟨0, 1, 0, 0, 0⟩, .refused)],
      let t := after (.rawChange 0 true) (tripping x.2.1 x.1 x.2.2.1)
      t.groups[(0 : GroupNo)].state = .tripped 1000 ∧ t.spools[(0 : SpoolNo)].held.any fun r =>
        match r.draft.body with
        | .trip _ _ _ _ d _ => d == x.2.2.2
        | _ => false := by decide +kernel

/-- R99: of two BURST groups that trip on one change the lower opens, and the other finds the burst OPEN. -/
theorem test_second_group_extends :
    let s := watched .burst .conforming false
    ((after (.rawChange 0 true) (onGroup 4 (fun g => { g with cfg := s.groups[(0 : GroupNo)].cfg, state := .conforming }) s)
      ).spools[(0 : SpoolNo)].held.map (·.draft.body)) =
        [.burstOpen 1 0 1001000 0, .trip 0 0 1 1 .opened (some 1), .trip 4 0 1 1 .extended (some 1)] := by decide +kernel

theorem witness_deadline :
    let s := withPhase (.isOpen { burst0 with timer := 0 }) bursting
    s.burst.phase = .isOpen { burst0 with timer := 0 } ∧ s.spools[burst0.spool].reservation = true ∧
      s.spools[burst0.spool].current = some 1 ∧ (after .deadlineExpiry s).burst.phase = .idle ∧
      (after .deadlineExpiry { s with burst := { s.burst with settings := ⟨0, 1, 60000, 0, 0⟩ } }).burst.phase =
        .cooldown 1 0 0 60000000 := by decide +kernel

/-- R109 and R37: the MARK, and the pin of a group with pin-on-burst. -/
theorem test_deadline_marks_and_pins :
    let t := after .deadlineExpiry (onGroup 0 (fun g => { g with cfg := { g.cfg with pinOnBurst := true } })
      (withPhase (.isOpen { burst0 with timer := 0 }) bursting))
    t.spools[(0 : SpoolNo)].held.getLast?.map (·.draft.body) = some (.mark .burstEnd 1 (some 1)) ∧
      t.spools[(0 : SpoolNo)].pins = [1] := by decide +kernel

/-! ### The link -/

theorem witness_characters :
    (after (.characterReceived 0xC3) State.reset).link.rx = .length 0 ∧
    after (.characterReceived 0xC2) State.reset = State.reset ∧
    (∀ b ∈ [(2 : Byte), 250], (after (.characterReceived b) (withRx (.length 7) State.reset)).link.rx =
      .body b.toNat [] (crcOf [b]) 0) ∧
    (after (.characterReceived 1) (withRx (.body 2 [] 0 7) State.reset)).link.rx = .body 2 [1] (crcByte 0 1) 0 ∧
    (after (.characterReceived 1) (withRx (.body 1 [] 0 7) State.reset)).link.rx = .check [1] (crcByte 0 1) none 0 ∧
    (after (.characterReceived 9) (withRx (.check [1] 0 none 7) State.reset)).link.rx = .check [1] 0 (some 9) 0 ∧
    (after (.characterReceived 9) (withRx .low State.reset)).link.rx = .low := by decide +kernel

theorem witness_request_frame :
    State.reset.link.rx = .hunt ∧ ([] : List Byte).length ≤ 248 ∧ (List.replicate 248 (0 : Byte)).length ≤ 248 ∧
    State.reset.link.outstanding.length < 4 ∧ (7 : Byte) ∉ State.reset.link.outstanding.map (·.tag) ∧
    (match runCommands (arrivalOf (frameBytes 0x01 7 [0x21])) State.reset with
      | .next t => decide (t.link.intake = [⟨7, [0x21]⟩] ∧ t.link.rx = .hunt)
      | _ => false) = true := by decide +kernel

/-- The receiver at the second check byte of a frame with this body, its check being `crc`. -/
def atCheck (body : List Byte) (crc : BitVec 16) (s : State) : State :=
  withRx (.check body crc (some (BitVec.ofNat 8 (crc.toNat / 256))) 5) s

theorem witness_good_frame :
    (0x1234 : BitVec 16).toNat = 256 * (0x12 : Byte).toNat + (0x34 : Byte).toNat ∧
    (after (.frameArrival 0x34) (atCheck [1, 7, 0x21] 0x1234 State.reset)).link.intake = [⟨7, [0x21]⟩] ∧
    (after (.frameArrival 0x34) (atCheck [2, 7, 0x21] 0x1234 State.reset)).status = some .badRequest ∧
    (after (.frameArrival 0x34) (atCheck [1, 7, 0x21] 0x1234 (ask [0x21] State.reset))).status = some .tagInUse ∧
    (let full : State := { State.reset with link := { State.reset.link with
       outstanding := [⟨0, none, .replying⟩, ⟨1, none, .replying⟩, ⟨2, none, .replying⟩, ⟨3, none, .replying⟩] } }
     (after (.frameArrival 0x34) (atCheck [1, 7, 0x21] 0x1234 full)).status = some .busy) ∧
    (let dry : State := { State.reset with link := { State.reset.link with refusalSlots := 2 } }
     (after (.frameArrival 0x34) (atCheck [2, 7, 0x21] 0x1234 dry)).link.counters[refusalsDropped] = 1) := by decide +kernel

theorem witness_link_faults :
    (∀ b ∈ [(0 : Byte), 1, 251, 255], (after (.lengthFault b) (withRx (.length 7) State.reset)).link.counters[lengthErrors] = 1) ∧
    (after (.frameArrival 0x35) (atCheck [1, 7, 0x21] 0x1234 State.reset)).link.counters[checkErrors] = 1 ∧
    (∀ rx ∈ [Receiver.length 2000, .body 9 [] 0 2087, .check [] 0 none 2000],
      (after .gapTimeout (withRx rx State.reset)).link.counters[gapTimeouts] = 1) ∧
    (∀ rx ∈ [Receiver.length 5, .body 9 [] 0 5, .check [] 0 none 5],
      (after (.characterError false) (withRx rx State.reset)).link.counters[characterErrors] = 1 ∧
      (after (.characterError true) (withRx rx State.reset)).link.rx = .low) ∧
    (after (.characterError true) State.reset).link.rx = .low ∧
    (after (.characterError true) State.reset).link.counters[characterErrors] = 0 ∧
    (after .receiveLineReturnsHigh (withRx .low State.reset)).link.rx = .hunt := by decide +kernel

/-- `eight` with C0 to C3 in each state a break finds, and a notification outstanding of an enabled and a disabled class. -/
def beforeBreak : State :=
  let s := withCursor 1 (.streaming 0 5 none true) (withCursor 2 (.positioned 0 6) (withCursor 3 (.lapped 0) eight))
  let marked := (s.cursors.set 1 { s.cursors[1] with inFlight := some 3 }).set 2 { s.cursors[2] with inFlight := some 99 }
  let s := { s with cursors := marked }
  onClass 0 (fun c => { c with enable := true, outstanding := some (.trip 1 1 none), pendingDetail := some (.trip 2 1 none) })
    (onClass 4 (fun c => { c with outstanding := some (.chatter 1) }) s)

theorem witness_link_break :
    beforeBreak.link.breakTaken = false ∧
    (after .linkBreak beforeBreak).cursors.toList.map (·.state) =
      [.closed, .positioned 0 3, .lapped 0, .lapped 0] ∧
    ((after .linkBreak beforeBreak).notes.classes[(0 : ClassNo)]).pendingDetail = some (.trip 3 2 none) ∧
    ((after .linkBreak beforeBreak).notes.classes[(4 : ClassNo)]).pendingDetail = none ∧
    (after .linkBreak beforeBreak).link.counters[breaks] = 1 ∧
    (after .linkBreak beforeBreak).link.breakTaken = true ∧
    after .linkBreak (after .linkBreak beforeBreak) = after .linkBreak beforeBreak := by decide +kernel

/-- Two classes that can send, with one credit. -/
def noting (resend : Bool) : State :=
  let s := onClass 3 (fun c => { c with
    enable := true, priority := 2, timeout := 10, noteNumber := 255, resendDue := resend,
    outstanding := if resend then some (.loss 1 1) else none, pendingDetail := some (.loss 2 1) }) armed
  let s := onClass 4 (fun c => { c with enable := true, priority := 2, pendingDetail := some (.chatter 1) }) s
  { s with notes := { s.notes with credit := 1 } }

theorem witness_arbiter :
    after .arbiterChoice (withPath (.streamEnd 0 .count) armed) = withPath (.streamEnd 0 .count) armed ∧
    (after .arbiterChoice { armed with link := { armed.link with replyQueue := [.streamEnd 0 .count] } }).link.path.map
      (·.frame) = some (.streamEnd 0 .count) ∧
    (noting false).notes.credit ≠ 0 ∧
    (∀ m : ClassNo, (noting false).notes.classes[m].sendable = true →
      (noting false).notes.classes[m].priority < (noting false).notes.classes[(3 : ClassNo)].priority ∨
        (noting false).notes.classes[m].priority = (noting false).notes.classes[(3 : ClassNo)].priority ∧ 3 ≤ m) ∧
    (after .arbiterChoice (noting false)).link.path.map (·.frame) = some (.notify 3 0 false (.loss 2 1)) ∧
    (after .arbiterChoice (noting true)).link.path.map (·.frame) = some (.notify 3 255 true (.loss 1 1)) := by
  decide +kernel

theorem witness_arbiter_stream :
    ∀ x ∈ ([(0, none, false, 6, none), (0, some 3, true, 3, some .count), (5, none, false, 3, some .atEnd),
        (5, none, true, 3, none), (8, none, false, 0, some .atEnd)] :
        List (Nat × Option Nat × Bool × Nat × Option StreamEnd)),
      let s := withCursor 2 (.streaming 0 (9 - (8 - x.1)) x.2.1 x.2.2.1) eight
      s.link.path = none ∧ s.link.replyQueue = [] ∧ s.notes.credit = 0 ∧
        (∀ j : Fin 4, j < 2 → eligible s (s.link.lastServed + 1 + j) = false) ∧
        ((after .arbiterChoice s).link.path.map (·.frame)) =
          some (.data 2 x.2.2.2.2 ((eight.spools[(0 : SpoolNo)].held.drop x.1).take x.2.2.2.1)) := by decide +kernel

theorem witness_transmission :
    (∀ f ∈ [Frame.reply 7 none ⟨.ok, .empty⟩ false, .refusal 1 none .busy, .streamEnd 0 .count, .notify 0 1 false (.trip 1 1 none),
        .data 0 none []],
      (after .transmissionCompletion (withPath f armed)).link.path = none) ∧
    (after .transmissionCompletion (withPath (.reply 7 none ⟨.ok, .empty⟩ true)
      { ask [0x21] armed with mode := .hold })).link.outstanding = [] := by decide +kernel

/-! ### Laws: a state that meets each of them, the witness of the statements that a step keeps them -/

/-- A working state: ARMED, a burst OPEN, a cursor on a record, a notification outstanding. -/
def working : State :=
  onLine 0 (fun l => { l with pin := true, qualified := true }) (onGroup 0 (fun g => { g with state := .tripped 900 })
    (onClass 0 (fun c => { c with enable := true, outstanding := some (.trip 1 1 none), noteNumber := 1 })
      (withCursor 0 (.positioned 0 1) bursting)))

theorem working_notes : NotesLaw working := by constructor <;> decide +kernel

theorem working_link : LinkLaw working := by
  have h : working.link = State.reset.link := by decide +kernel
  constructor <;> rw [h] <;> decide +kernel

theorem working_modes : ModeLaw working := by
  have h : working.burst.phase = .isOpen burst0 := by decide +kernel
  constructor <;> decide +kernel

theorem working_lines : LineLaw working := by
  have h : ∀ l : LineNo, working.lines[l].state = .idle ∨ working.lines[l].state = .quiet := by decide +kernel
  constructor
  · decide +kernel
  · intro l t0 t e; rcases h l with h | h <;> rw [h] at e <;> cases e
  · intro l t e; rcases h l with h | h <;> rw [h] at e <;> cases e
  · decide +kernel
  · intro l t e; rcases h l with h | h <;> rw [h] at e <;> cases e

theorem working_groups : GroupLaw working := by constructor <;> decide +kernel

theorem working_capacity : CapacityLaw working := by
  constructor
  · decide +kernel
  · decide +kernel
  · decide +kernel
  · decide +kernel
  · have h : working.burst.phase = .isOpen burst0 := by decide +kernel
    have h' : ∀ i : SpoolNo, working.spools[i].reservation = true ↔ burst0.spool = i := by decide +kernel
    intro i
    rw [h' i, h]
    exact ⟨fun e => ⟨burst0, rfl, e⟩, fun ⟨b, e, e'⟩ => by cases e; exact e'⟩
  · decide +kernel

theorem working_spools : SequenceLaw working ∧ PinLaw working := by
  refine ⟨fun i => ?_, by unfold PinLaw; decide +kernel⟩
  have h : ∀ i : SpoolNo, ∀ k : Fin working.spools[i].held.length,
      working.spools[i].held[k].seq + (working.spools[i].held.length - k.val) = working.spools[i].nextSeq := by
    decide +kernel
  exact fun k hk => h i ⟨k, hk⟩

theorem working_cursors : CursorLaw working := by
  have h : ∀ c : CursorNo, ∀ q ∈ working.cursors[c].place?.toList,
      (working.spools[q.1].holds q.2 = true ∨ q.2 = working.spools[q.1].nextSeq) ∧ working.spools[q.1].erasing = none := by
    decide +kernel
  intro c i p e
  exact h c (i, p) (by rw [e]; exact List.mem_singleton.mpr rfl)

/-- Steps from the working state: a raw change closes the trip of G0, or 1 µs passes. -/
theorem witness_working_steps :
    (stepped { working with pending := [.rawChange 0 false] }).groups[(0 : GroupNo)].state = .conforming ∧
    (stepped working).time = 1001 := by decide +kernel

end Sys2Proof.Machine
end

section
/-! The numbering and the pin table of one spool (R13, R32): what each operation of the store does to them. -/

namespace Sys2Proof.Machine

/-- One spool's part of the numbering and pin laws (R13, R32). -/
structure Spool.Numbered (sp : Spool) : Prop where
  consecutive : sp.consecutive
  pinCount : sp.pins.length ≤ Config.pinTableSize
  pinOrder : sp.pins.Pairwise (· < ·)
  pinHeld : ∀ p ∈ sp.pins, ∃ r ∈ sp.held, r.seg = p

theorem numbered_iff (s : State) : (∀ i : SpoolNo, s.spools[i].Numbered) ↔ SequenceLaw s ∧ PinLaw s :=
  ⟨fun h => ⟨fun i => (h i).consecutive, fun i => ⟨(h i).pinCount, (h i).pinOrder, (h i).pinHeld⟩⟩,
    fun ⟨hs, hp⟩ i => ⟨hs i, (hp i).1, (hp i).2.1, (hp i).2.2⟩⟩

/-! ### The pin table as a list -/

theorem mem_insertPin {p s : Nat} {ps : List Nat} : p ∈ insertPin s ps ↔ p = s ∨ p ∈ ps := by
  induction ps with
  | nil => simp [insertPin]
  | cons q qs ih =>
    unfold insertPin
    split
    · exact List.mem_cons
    · split
      · next h => subst h; simp
      · simp only [List.mem_cons, ih]; tauto

theorem length_insertPin {s : Nat} {ps : List Nat} (h : s ∉ ps) : (insertPin s ps).length = ps.length + 1 := by
  induction ps with
  | nil => rfl
  | cons q qs ih =>
    rw [List.mem_cons, not_or] at h
    unfold insertPin
    split
    · rfl
    · rw [if_neg h.1, List.length_cons, ih h.2, List.length_cons]

theorem pairwise_insertPin {s : Nat} {ps : List Nat} (h : ps.Pairwise (· < ·)) : (insertPin s ps).Pairwise (· < ·) := by
  induction ps with
  | nil => exact List.pairwise_singleton _ _
  | cons q qs ih =>
    have ⟨hq, hqs⟩ := List.pairwise_cons.1 h
    unfold insertPin
    split
    · next hs => exact List.pairwise_cons.2 ⟨fun p hp => (List.mem_cons.1 hp).elim (· ▸ hs) (hs.trans <| hq p ·), h⟩
    · split
      · exact h
      · refine List.pairwise_cons.2 ⟨fun p hp => ?_, ih hqs⟩
        rcases mem_insertPin.1 hp with rfl | hp
        · omega
        · exact hq p hp

/-- The pins a removal leaves are pins of before, each with no record gone or one still held (R32). -/
theorem Spool.mem_removeOldest_pins {sp : Spool} {n p : Nat} : p ∈ (sp.removeOldest n).pins ↔
    p ∈ sp.pins ∧ ((∃ r ∈ sp.held.drop n, r.seg = p) ∨ ∀ r ∈ sp.held.take n, r.seg ≠ p) := by
  simp [Spool.removeOldest]

/-! ### What keeps the numbering -/

namespace Spool.Numbered

variable {sp : Spool}

/-- The numbering speaks of the records, the next sequence and the pins alone. -/
theorem frame {sp' : Spool} (h : sp.Numbered) (hh : sp'.held = sp.held) (hn : sp'.nextSeq = sp.nextSeq)
    (hp : sp'.pins = sp.pins) : sp'.Numbered where
  consecutive k hk := by
    simp only [hh] at hk
    simp only [hh, hn]
    exact h.consecutive k hk
  pinCount := hp ▸ h.pinCount
  pinOrder := hp ▸ h.pinOrder
  pinHeld := hp ▸ hh ▸ h.pinHeld

theorem place (h : sp.Numbered) (d : Draft) : (sp.place d).Numbered where
  consecutive k hk := by
    change k < (sp.held ++ [sp.newRecord d]).length at hk
    show (sp.held ++ [sp.newRecord d])[k].seq + ((sp.held ++ [sp.newRecord d]).length - k) = sp.nextSeq + 1
    rw [List.length_append, List.length_singleton] at hk ⊢
    rw [List.getElem_append]
    split
    · next hlt => have := h.consecutive k hlt; omega
    · have : (sp.newRecord d).seq = sp.nextSeq := rfl
      rw [List.getElem_singleton]
      omega
  pinCount := h.pinCount
  pinOrder := h.pinOrder
  pinHeld p hp := by
    obtain ⟨r, hr, e⟩ := h.pinHeld p hp
    exact ⟨r, List.mem_append_left _ hr, e⟩

theorem removeOldest (h : sp.Numbered) (n : Nat) : (sp.removeOldest n).Numbered where
  consecutive k hk := by
    change k < (sp.held.drop n).length at hk
    show (sp.held.drop n)[k].seq + ((sp.held.drop n).length - k) = sp.nextSeq
    rw [List.length_drop] at hk ⊢
    have := h.consecutive (n + k) (by omega)
    rw [List.getElem_drop]
    omega
  pinCount := (List.length_filter_le _ _).trans h.pinCount
  pinOrder := h.pinOrder.filter _
  pinHeld p hp := by
    obtain ⟨hp, hkept | hgone⟩ := mem_removeOldest_pins.1 hp
    · exact hkept
    · obtain ⟨r, hr, e⟩ := h.pinHeld p hp
      rw [← List.take_append_drop n sp.held, List.mem_append] at hr
      exact ⟨r, hr.resolve_left fun hr => hgone r hr e, e⟩

theorem makeRoom (h : sp.Numbered) (k : Nat) : (sp.makeRoom k).Numbered := h.removeOldest _

theorem settle (h : sp.Numbered) (now : Nat) : (sp.settle now).Numbered := by
  unfold Spool.settle
  split
  · exact (h.place _).frame rfl rfl rfl
  · exact h

theorem lose (h : sp.Numbered) (t : Nat) : (sp.lose t).Numbered := h.frame rfl rfl rfl

theorem appended (h : sp.Numbered) (now : Nat) (d : Draft) : (sp.appended now d).Numbered := by
  unfold Spool.appended
  obtain ⟨-, e⟩ | ⟨-, -, e⟩ | ⟨-, -, -, -, e⟩ | ⟨ty, -, -, -, -, e⟩ | ⟨ty, -, -, -, -, -, e⟩ := sp.append_cases now d
  all_goals rw [e]
  · exact h
  · exact h.lose _
  · exact (h.makeRoom 1).place d
  · exact ((h.makeRoom 2).settle now).place d
  · exact ((h.makeRoom 1).settle now).lose _

/-- A segment with a held record takes a free place of the pin table (R32, R33). -/
theorem insertPin {seg : Nat} (h : sp.Numbered) (hs : ∃ r ∈ sp.held, r.seg = seg) (hn : seg ∉ sp.pins)
    (hl : sp.pins.length < Config.pinTableSize) : Spool.Numbered { sp with pins := Machine.insertPin seg sp.pins } where
  consecutive := h.consecutive
  pinCount := (length_insertPin hn).trans_le hl
  pinOrder := pairwise_insertPin h.pinOrder
  pinHeld p hp := (mem_insertPin.1 hp).elim (· ▸ hs) (h.pinHeld p)

/-- Fewer pins, or none. -/
theorem fewerPins {ps : List Nat} (h : sp.Numbered) (hs : ps.Sublist sp.pins) :
    Spool.Numbered { sp with pins := ps } where
  consecutive := h.consecutive
  pinCount := hs.length_le.trans h.pinCount
  pinOrder := h.pinOrder.sublist hs
  pinHeld p hp := h.pinHeld p (hs.subset hp)

theorem pinForBurst {seg : Nat} (h : sp.Numbered) (hs : ∃ r ∈ sp.held, r.seg = seg) :
    (sp.pinForBurst seg).Numbered := by
  unfold Spool.pinForBurst
  split
  · exact h
  · next hc =>
    rw [not_or, Nat.not_le] at hc
    exact h.insertPin hs hc.1 hc.2

end Spool.Numbered

end Sys2Proof.Machine
end

section
/-! An invariant of single spools, kept by every command. A `SpoolInvariant` names what each operation of the store must
keep; `SpoolInvariant.exec` goes through all commands once, so that a law of the store is shown by its operations alone. -/

namespace Sys2Proof.Machine

/-! ### The opening run at its spool (R22) -/

/-- The spool of an opening with the slot set aside and the open segment closed by its MARK (R22). -/
def Spool.closedForOpening (sp : Spool) (now : Nat) : Spool :=
  let aside : Spool := { sp.makeRoom 1 with reservation := true }
  if sp.current.isSome then (aside.makeRoom 1).place { body := .mark .burstStart 0 none, timestamp := now } else aside

/-- The spool of an opening when the TRIP record is asked for: BURST_OPEN and the LOSS record of a tally are placed (R22). -/
def Spool.beforeTrip (sp : Spool) (now : Nat) (burstOpen : Draft) : Spool :=
  let opened := ({ sp.closedForOpening now with burstSeg := true }.makeRoom 1).place burstOpen
  match sp.tally with
  | some ty => { (opened.makeRoom 1).place (lossDraft now ty) with tally := none }
  | none => opened

theorem foldl_appendTo_spool (i j : SpoolNo) (ds : List Draft) (s : State) :
    (ds.foldl (fun acc d => appendTo i d acc) s).spools[j]
      = if i = j then s.spools[i].appendedAll s.time ds else s.spools[j] := by
  induction ds generalizing s with
  | nil => split <;> simp_all [Spool.appendedAll]
  | cons d ds ih =>
    rw [List.foldl_cons, ih, appendTo_spool, appendTo_spool, if_pos rfl, (appendTo_storeOnly i d s).time]
    split <;> rfl

/-- The state in which an opening run closes the open segment (R22). -/
def closeForOpening (i : SpoolNo) (s : State) : State :=
  if s.spools[i].current.isSome then
    placeDirect i { body := .mark .burstStart 0 none, timestamp := s.time } (setAside i s)
  else setAside i s

/-- The state in which an opening run asks for the TRIP record (R22). -/
def beforeTrip (i : SpoolNo) (burstOpen : Draft) (s : State) : State :=
  let closed := closeForOpening i s
  let opened := placeDirect i burstOpen (closed.setSpool i { closed.spools[i] with burstSeg := true })
  match s.spools[i].tally with
  | some ty =>
      let settled := placeDirect i (lossDraft s.time ty) opened
      settled.setSpool i { settled.spools[i] with tally := none }
  | none => opened

/-- An opening run is an opening, then ordinary appends of the TRIP record and the lookback records (R22). -/
theorem openingRun_eq (i : SpoolNo) (burstOpen trip : Draft) (lookback : List Draft) (s : State) :
    openingRun i burstOpen trip lookback s
      = (lookback.foldl (fun acc d => appendTo i d acc) (append i trip (beforeTrip i burstOpen s)).1,
          (append i trip (beforeTrip i burstOpen s)).2) := rfl

theorem closeForOpening_spool (i j : SpoolNo) (s : State) :
    (closeForOpening i s).spools[j] = if i = j then s.spools[i].closedForOpening s.time else s.spools[j] := by
  unfold closeForOpening Spool.closedForOpening
  rcases eq_or_ne i j with rfl | h
  · split <;> simp only [if_true, placeDirect_spool, setAside_spool]
  · split <;> simp only [h, if_false, placeDirect_spool, setAside_spool]

theorem closeForOpening_storeOnly (i : SpoolNo) (s : State) : StoreOnly s (closeForOpening i s) := by
  unfold closeForOpening
  split
  · exact (setAside_storeOnly i s).trans (placeDirect_storeOnly i _ _)
  · exact setAside_storeOnly i s

theorem closeForOpening_effects (i : SpoolNo) (s : State) : MidEffects [] s (closeForOpening i s) := by
  unfold closeForOpening
  split
  · exact (setAside_effects i s).trans (placeDirect_effects i _ _)
  · exact setAside_effects i s

theorem beforeTrip_spool (i j : SpoolNo) (burstOpen : Draft) (s : State) :
    (beforeTrip i burstOpen s).spools[j] = if i = j then s.spools[i].beforeTrip s.time burstOpen else s.spools[j] := by
  unfold beforeTrip Spool.beforeTrip
  rcases eq_or_ne i j with rfl | h
  · cases s.spools[i].tally <;> simp only [if_true, placeDirect_spool, setSpool_spool, closeForOpening_spool]
  · cases s.spools[i].tally <;> simp only [h, if_false, placeDirect_spool, setSpool_spool, closeForOpening_spool]

theorem beforeTrip_storeOnly (i : SpoolNo) (burstOpen : Draft) (s : State) : StoreOnly s (beforeTrip i burstOpen s) := by
  have opened := ((closeForOpening_storeOnly i s).trans (setSpool_storeOnly i
    { (closeForOpening i s).spools[i] with burstSeg := true } _)).trans (placeDirect_storeOnly i burstOpen _)
  unfold beforeTrip
  split
  · exact (opened.trans (placeDirect_storeOnly i _ _)).trans (setSpool_storeOnly i _ _)
  · exact opened

theorem beforeTrip_effects (i : SpoolNo) (burstOpen : Draft) (s : State) : MidEffects [] s (beforeTrip i burstOpen s) := by
  have opened := ((closeForOpening_effects i s).trans (setSpool_effects i
    { (closeForOpening i s).spools[i] with burstSeg := true } _)).trans (placeDirect_effects i burstOpen _)
  unfold beforeTrip
  split
  · exact (opened.trans (placeDirect_effects i _ _)).trans (setSpool_effects i _ _)
  · exact opened

/-- The spools after an opening run (R22). -/
theorem openingRun_spool (i j : SpoolNo) (burstOpen trip : Draft) (lookback : List Draft) (s : State) :
    (openingRun i burstOpen trip lookback s).1.spools[j] = if i = j then
      ((s.spools[i].beforeTrip s.time burstOpen).appended s.time trip).appendedAll s.time lookback else s.spools[j] := by
  rw [openingRun_eq]
  dsimp only
  rw [foldl_appendTo_spool, append_spool, append_spool, beforeTrip_spool, beforeTrip_spool, if_pos rfl, if_pos rfl,
    (append_storeOnly i trip _).time, (beforeTrip_storeOnly i burstOpen s).time]
  split <;> rfl

theorem openingRun_storeOnly (i : SpoolNo) (burstOpen trip : Draft) (lookback : List Draft) (s : State) :
    StoreOnly s (openingRun i burstOpen trip lookback s).1 :=
  ((beforeTrip_storeOnly i burstOpen s).trans (append_storeOnly i trip _)).trans
    (StoreOnly.foldl _ (fun s d => appendTo_storeOnly i d s) lookback _)

theorem openingRun_effects (i : SpoolNo) (burstOpen trip : Draft) (lookback : List Draft) (s : State) :
    MidEffects [lossClass] s (openingRun i burstOpen trip lookback s).1 :=
  (((beforeTrip_effects i burstOpen s).mono fun _ h => nomatch h).trans (append_effects i trip _)).trans
    (MidEffects.foldl _ (fun s d => appendTo_effects i d s) lookback _)

end Sys2Proof.Machine
end

section
/-! An invariant of single spools, kept by every command. A `SpoolInvariant` names what each operation of the store must
keep; the theorems on `StoreLaw` follow the meanings once, down to `SpoolInvariant.exec`, so that a law of the store is
shown by the store's own operations alone. -/

namespace Sys2Proof.Machine

/-- A burst is open on spool `i`. -/
def BurstPhase.isOn : BurstPhase → SpoolNo → Bool
  | .isOpen b, i => decide (b.spool = i)
  | _, _ => false

theorem isOn_self (b : OpenBurst) : (BurstPhase.isOpen b).isOn b.spool = true := decide_eq_true rfl

theorem isOn_other {b : OpenBurst} {i : SpoolNo} (h : b.spool ≠ i) : (BurstPhase.isOpen b).isOn i = false :=
  decide_eq_false h

theorem isOn_closed {p : BurstPhase} (h : ∀ b, p ≠ .isOpen b) (i : SpoolNo) : p.isOn i = false := by
  cases p with
  | isOpen b => exact absurd rfl (h b)
  | idle => rfl
  | cooldown => rfl

theorem isOn_of_isOn_other {p : BurstPhase} {i j : SpoolNo} (h : p.isOn i = true) (hij : i ≠ j) : p.isOn j = false := by
  cases p with
  | isOpen b => exact decide_eq_false ((of_decide_eq_true h) ▸ hij)
  | idle => rfl
  | cooldown => rfl

/-- At the start of an erase of spool `i` a burst open on it loses its slot and its segment (R41). -/
theorem endBurstForErase_spool (i j : SpoolNo) (s : State) : (endBurstForErase i s).spools[j] =
    if i = j ∧ s.burst.phase.isOn i then { s.spools[i] with reservation := false, burstSeg := false }
    else s.spools[j] := by
  unfold endBurstForErase
  split
  · next b hb =>
    rw [hb]
    by_cases e : b.spool = i
    · rw [if_pos e, State.setPhase_spools, setSpool_spool, BurstPhase.isOn, decide_eq_true e]
      simp only [and_true]
    · rw [if_neg e, BurstPhase.isOn, decide_eq_false e, if_neg fun h => nomatch h.2]
  · next h => rw [if_neg fun k => by rw [isOn_closed h] at k; exact nomatch k.2]

/-- At the start of an erase of spool `i` the burst state leaves a burst open on it (R41). -/
theorem endBurstForErase_phase (i : SpoolNo) (s : State) :
    (endBurstForErase i s).burst.phase = if s.burst.phase.isOn i then .idle else s.burst.phase := by
  unfold endBurstForErase
  split
  · next b hb =>
    rw [hb]
    by_cases e : b.spool = i
    · rw [if_pos e, BurstPhase.isOn, decide_eq_true e]; rfl
    · rw [if_neg e, BurstPhase.isOn, decide_eq_false e]; exact hb
  · next h => rw [isOn_closed h]; rfl

/-- The spools after the start of an erase of spool `i` (R40, R41). -/
theorem startErase_spool (i j : SpoolNo) (s : State) : (startErase i s).spools[j] =
    if i = j then
      (if s.burst.phase.isOn i then { s.spools[i].startErase with reservation := false, burstSeg := false }
        else s.spools[i].startErase)
    else s.spools[j] := by
  unfold startErase
  rw [endBurstForErase_spool]
  simp only [State.setCursors_spools, setSpool_spool, State.setCursors_burst, State.setSpool_burst, if_true]
  by_cases e : i = j <;> simp only [e, true_and, false_and, if_true, if_false]

/-- The burst phase after the start of an erase of spool `i` (R41). -/
theorem startErase_phase (i : SpoolNo) (s : State) :
    (startErase i s).burst.phase = if s.burst.phase.isOn i then .idle else s.burst.phase :=
  endBurstForErase_phase i _

/-- Two states of a spool that differ in nothing the records, the pins, the reservation or the capacity show; and the
second is not ERASING where the first is not. -/
structure Spool.Alike (sp sp' : Spool) : Prop where
  held : sp'.held = sp.held
  nextSeq : sp'.nextSeq = sp.nextSeq
  capacity : sp'.capacity = sp.capacity
  threshold : sp'.threshold = sp.threshold
  reservation : sp'.reservation = sp.reservation
  pins : sp'.pins = sp.pins
  erasing : sp'.erasing.isSome = true → sp.erasing.isSome = true

/-- A property of a spool, by its number and by whether a burst is open on it, that every operation of the store keeps. -/
structure SpoolInvariant (P : SpoolNo → Bool → Spool → Prop) : Prop where
  alike : ∀ {i r sp sp'}, P i r sp → sp.Alike sp' → P i r sp'
  appended : ∀ {i r sp} now d, P i r sp → P i r (sp.appended now d)
  opening : ∀ {i sp} now d, d.body.markInfo = none → P i false sp → sp.erasing = none →
    sp.room (openingNeed sp) true = true → P i true (sp.beforeTrip now d)
  filled : ∀ {i sp} d, P i true sp → P i false (sp.fill d)
  unreserved : ∀ {i sp}, P i true sp → P i false { sp with reservation := false }
  removeOldest : ∀ {i r sp} n, P i r sp → P i r (sp.removeOldest n)
  pinned : ∀ {i r sp seg}, P i r sp → (∃ rec ∈ sp.held, rec.seg = seg) → seg ∉ sp.pins →
    sp.pins.length < Config.pinTableSize → P i r { sp with pins := insertPin seg sp.pins }
  fewerPins : ∀ {i r sp ps}, P i r sp → ps.Sublist sp.pins → P i r { sp with pins := ps }
  erasing : ∀ {i sp} n, P i false sp → P i false { sp with erasing := some n }

/-- Every spool has the property. -/
def StoreLaw (P : SpoolNo → Bool → Spool → Prop) (s : State) : Prop :=
  ∀ i : SpoolNo, P i (s.burst.phase.isOn i) s.spools[i]

/-- Nothing of the store and the burst phase differs. -/
structure SameStore (s t : State) : Prop where
  spools : t.spools = s.spools
  phase : t.burst.phase = s.burst.phase

variable {P : SpoolNo → Bool → Spool → Prop} {s t : State}

theorem StoreLaw.same (h : StoreLaw P s) (k : SameStore s t) : StoreLaw P t := fun i => by
  rw [k.spools, k.phase]
  exact h i

theorem StoreLaw.raise {c : ClassNo} {d : Detail} (h : StoreLaw P s) : StoreLaw P (raise c d s) := h.same ⟨rfl, rfl⟩

theorem StoreLaw.setSpool {i : SpoolNo} {sp : Spool} (h : StoreLaw P s) (k : P i (s.burst.phase.isOn i) sp) :
    StoreLaw P (s.setSpool i sp) := fun j => by
  rw [setSpool_spool, State.setSpool_burst]
  split
  · next e => exact e ▸ k
  · exact h j

/-- A phase that opens and closes no burst. -/
theorem StoreLaw.setPhase {p : BurstPhase} (h : StoreLaw P s) (hp : ∀ i, p.isOn i = s.burst.phase.isOn i) :
    StoreLaw P (s.setPhase p) := fun i => by
  show P i (p.isOn i) s.spools[i]
  rw [hp]
  exact h i

namespace SpoolInvariant

variable (hP : SpoolInvariant P)
include hP

/-- Every spool replaced by one like it, the phase staying open where it is. -/
theorem allAlike (h : StoreLaw P s) (hp : ∀ i, t.burst.phase.isOn i = s.burst.phase.isOn i)
    (hs : ∀ i : SpoolNo, s.spools[i].Alike t.spools[i]) : StoreLaw P t := fun i => by
  rw [hp]
  exact hP.alike (h i) (hs i)

/-! ### Appends and the end of an event -/

theorem append (i : SpoolNo) (d : Draft) (h : StoreLaw P s) : StoreLaw P (append i d s).1 := fun j => by
  rw [append_spool, (append_storeOnly i d s).burst]
  split
  · next e => exact e ▸ hP.appended s.time d (h i)
  · exact h j

theorem appendTo (i : SpoolNo) (d : Draft) (h : StoreLaw P s) : StoreLaw P (appendTo i d s) := hP.append i d h

theorem appendToAll (d : Draft) (h : StoreLaw P s) : StoreLaw P (appendToAll d s) := fun j => by
  rw [appendToAll_spool, (appendToAll_storeOnly d s).burst]
  exact hP.appended s.time d (h j)

theorem appendedAll {i : SpoolNo} {r : Bool} {sp : Spool} (now : Nat) (ds : List Draft) (h : P i r sp) :
    P i r (sp.appendedAll now ds) := by
  induction ds generalizing sp with
  | nil => exact h
  | cons d ds ih => exact ih (hP.appended now d h)

theorem closeEvent (s0 : State) (h : StoreLaw P s) : StoreLaw P (closeEvent s0 s) :=
  hP.allAlike h (fun i => by rw [(closeEvent_storeOnly s0 s).burst]) fun i => by
    rw [closeEvent_spool]
    unfold Spool.atEventEnd
    split <;> exact ⟨rfl, rfl, rfl, rfl, rfl, rfl, id⟩

theorem recording {f : State → State} (hf : StoreLaw P (f s)) : StoreLaw P (recording f s) := hP.closeEvent s hf

/-! ### Bursts -/

theorem pinForBurst {i : SpoolNo} {r : Bool} {sp : Spool} {seg : Nat} (h : P i r sp)
    (hs : ∃ rec ∈ sp.held, rec.seg = seg) : P i r (sp.pinForBurst seg) := by
  unfold Spool.pinForBurst
  split
  · exact h
  · next hc =>
    rw [not_or, Nat.not_le] at hc
    exact hP.pinned h hs hc.1 hc.2

theorem closeBurst {b : OpenBurst} {p : BurstPhase} (reason : MarkReason) (askPin : Bool) (h : StoreLaw P s)
    (hb : s.burst.phase = .isOpen b) (hp : ∀ i, p.isOn i = false) :
    StoreLaw P ((closeBurst reason askPin b s).setPhase p) := by
  have old := h b.spool
  rw [hb, isOn_self] at old
  let mark : Draft := { body := .mark reason 0 (some b.id), timestamp := s.time }
  have filled := hP.filled mark old
  intro j
  show P j (p.isOn j) (s.spools.set b.spool _)[j]
  rw [hp, Vector_set_get]
  split
  · next e =>
    subst e
    split
    · exact hP.pinForBurst filled ⟨_, List.mem_append_right _ (List.mem_singleton.2 rfl), rfl⟩
    · exact filled
  · next e =>
    have := h j
    rwa [hb, isOn_other e] at this

theorem endBurstEarly (reason : MarkReason) (h : StoreLaw P s) : StoreLaw P (endBurstEarly reason s) := by
  unfold Machine.endBurstEarly
  refine StoreLaw.same ?_ ⟨rfl, rfl⟩
  split
  · next b hb => exact hP.closeBurst reason false h hb fun _ => rfl
  · next hb => exact h.setPhase fun i => (isOn_closed hb i).symm

theorem abandonBurst (h : StoreLaw P s) : StoreLaw P (abandonBurst s) := by
  unfold Machine.abandonBurst
  refine StoreLaw.same ?_ ⟨rfl, rfl⟩
  split
  · next b hb =>
    intro j
    have old := h j
    rw [hb] at old
    show P j false (s.spools.set b.spool _)[j]
    rw [Vector_set_get]
    split
    · next e =>
      subst e
      rw [isOn_self] at old
      exact hP.alike (hP.unreserved old) ⟨rfl, rfl, rfl, rfl, rfl, rfl, id⟩
    · next e => rwa [isOn_other e] at old
  · next hb => exact h.setPhase fun i => (isOn_closed hb i).symm

/-- An erase takes its spool from a burst that is open on it (R40, R41). -/
theorem startErase (i : SpoolNo) (h : StoreLaw P s) : StoreLaw P (startErase i s) := by
  have erased : ∀ {sp}, P i false sp → P i false sp.startErase := fun k =>
    hP.alike (hP.fewerPins (hP.erasing _ k) (List.nil_sublist _)) ⟨rfl, rfl, rfl, rfl, rfl, rfl, id⟩
  intro j
  have old := h j
  rw [startErase_phase, startErase_spool]
  rcases eq_or_ne i j with e | e
  · subst e
    cases hon : s.burst.phase.isOn i <;> rw [hon] at old
    · simp only [if_true, if_false, Bool.false_eq_true, hon]
      exact erased old
    · simp only [if_true]
      exact hP.alike (erased (hP.unreserved old)) ⟨rfl, rfl, rfl, rfl, rfl, rfl, id⟩
  · rw [if_neg e]
    split
    · next hon => rwa [isOn_of_isOn_other hon e] at old
    · exact old

/-- An erase that has ended (R46). -/
theorem finishErase {i : SpoolNo} (h : StoreLaw P s) : StoreLaw P (s.setSpool i s.spools[i].finishErase) :=
  h.setSpool (hP.alike (hP.removeOldest _ (h i)) ⟨rfl, rfl, rfl, rfl, rfl, rfl, nofun⟩)

theorem openBurst {tr : Trip} (h : StoreLaw P s) (hp : ∀ i, s.burst.phase.isOn i = false)
    (he : s.spools[tr.cfg.route].erasing = none)
    (hr : s.spools[tr.cfg.route].room (openingNeed s.spools[tr.cfg.route]) true = true) :
    StoreLaw P (openBurst tr s).1 := by
  intro j
  have old := h j
  rw [hp] at old
  show P j (decide (tr.cfg.route = j)) (openingRun tr.cfg.route _ _ _ s).1.spools[j]
  rw [openingRun_spool]
  split
  · next e =>
    subst e
    rw [decide_eq_true rfl]
    exact hP.appendedAll _ _ (hP.appended _ _ (hP.opening _ _ rfl old he hr))
  · next e => rwa [decide_eq_false e]

theorem tryOpen {tr : Trip} (h : StoreLaw P s) (hp : ∀ i, s.burst.phase.isOn i = false) :
    StoreLaw P (tryOpen tr s).1 := by
  unfold Machine.tryOpen
  dsimp only
  split
  · next hc =>
    rw [Bool.and_eq_true, Option.isNone_iff_eq_none] at hc
    exact hP.openBurst h hp hc.1 hc.2
  · exact hP.append _ _ h

theorem burstTrip (tr : Trip) (h : StoreLaw P s) : StoreLaw P (burstTrip tr s).1 := by
  unfold Machine.burstTrip
  split
  · next hb => exact hP.tryOpen h fun i => by rw [hb]; rfl
  · next b hb => exact hP.append _ _ (h.setPhase fun i => by rw [hb]; rfl)
  · next hb =>
    split
    · exact hP.tryOpen (h.setPhase fun i => by rw [hb]; rfl) fun _ => rfl
    · exact hP.append _ _ h

theorem deadline (h : StoreLaw P s) : StoreLaw P (deadline s) := by
  unfold Machine.deadline
  split
  · next b hb =>
    split
    · exact hP.closeBurst _ _ h hb fun i => by split <;> rfl
    · exact h
  · exact h

omit hP in
theorem cooldownEnd (h : StoreLaw P s) : StoreLaw P (cooldownEnd s) := by
  unfold Machine.cooldownEnd
  split
  · next hb =>
    split
    · exact h.setPhase fun i => by rw [hb]; rfl
    · exact h
  · exact h

/-! ### Groups and lines -/

theorem tripGroup (g : GroupNo) (c : Change) (h : StoreLaw P s) : StoreLaw P (tripGroup g c s) := by
  unfold Machine.tripGroup
  refine StoreLaw.raise ?_
  have hg : StoreLaw P (s.setGroup g { s.groups[g] with
      state := .tripped c.time, tripCount := satAdd max16 s.groups[g].tripCount 1 }) := h.same ⟨rfl, rfl⟩
  dsimp only
  split
  · exact hP.append _ _ hg
  · exact hP.burstTrip _ hg

theorem evaluateGroup (c : Change) (g : GroupNo) (h : StoreLaw P s) : StoreLaw P (evaluateGroup c g s) := by
  have hg : ∀ gr, StoreLaw P (s.setGroup g gr) := fun gr => h.same ⟨rfl, rfl⟩
  unfold Machine.evaluateGroup
  dsimp only
  split
  · split
    · exact h
    · split
      exacts [h, hP.tripGroup g c h]
    · split
      exacts [hP.appendTo _ _ (hg _), hP.appendTo _ _ h]
    · split
      exacts [hP.appendTo _ _ (hg _), h]
  · exact h

theorem evaluateGroups (c : Change) (h : StoreLaw P s) : StoreLaw P (evaluateGroups c s) :=
  List.foldlRecOn _ _ h fun _ k g _ => hP.evaluateGroup c g k

theorem qualifiedChange (c : Change) (level : Bool) (h : StoreLaw P s) : StoreLaw P (qualifiedChange c level s) := by
  have logged : ∀ {s}, StoreLaw P s → StoreLaw P (logEdge c level s) := fun h => by
    unfold logEdge
    dsimp only
    split
    exacts [hP.appendTo _ _ h, h]
  have captured : ∀ {s}, StoreLaw P s → StoreLaw P (captureEdge c level s) := fun h => by
    unfold captureEdge
    dsimp only
    split
    · split
      exacts [hP.appendTo _ _ h, h]
    · exact h
  have entered : ∀ {s}, StoreLaw P s → StoreLaw P (enterRing c level s) := fun h => by
    unfold enterRing
    split
    · exact h
    · split
      exacts [h.same ⟨rfl, rfl⟩, h]
  unfold Machine.qualifiedChange
  dsimp only
  split
  · exact hP.evaluateGroups c (entered (captured (logged (h.same ⟨rfl, rfl⟩))))
  · exact h.same ⟨rfl, rfl⟩

theorem countExcursion (l : LineNo) (h : StoreLaw P s) : StoreLaw P (countExcursion l s) := by
  have suppressed : ∀ {s}, StoreLaw P s → StoreLaw P (suppress l s) := fun h => by
    unfold suppress
    dsimp only
    split
    · exact StoreLaw.raise (hP.appendTo _ _ (h.same ⟨rfl, rfl⟩))
    · exact h.same ⟨rfl, rfl⟩
  unfold Machine.countExcursion
  dsimp only
  split
  · exact h
  · split
    exacts [suppressed (h.same ⟨rfl, rfl⟩), h.same ⟨rfl, rfl⟩]

theorem departure (l : LineNo) (h : StoreLaw P s) : StoreLaw P (departure l s) := by
  unfold Machine.departure
  dsimp only
  split
  · split
    exacts [hP.qualifiedChange _ _ h, h.same ⟨rfl, rfl⟩]
  · refine hP.qualifiedChange _ _ ?_
    split
    exacts [h, h.same ⟨rfl, rfl⟩]

theorem rawChange (l : LineNo) (pin : Bool) (h : StoreLaw P s) : StoreLaw P (rawChange l pin s) := by
  have hl : ∀ ln, StoreLaw P (s.setLine l ln) := fun ln => h.same ⟨rfl, rfl⟩
  unfold Machine.rawChange
  split
  · exact h
  · dsimp only
    split
    · exact hl _
    · exact hP.departure l (hl _)
    · exact hP.countExcursion l (hl _)
    · split
      exacts [hP.countExcursion l (hl _), hl _]
    · exact hl _

theorem settlingExpiry (l : LineNo) (h : StoreLaw P s) : StoreLaw P (settlingExpiry l s) := by
  unfold Machine.settlingExpiry
  dsimp only
  split
  exacts [hP.qualifiedChange _ _ (h.same ⟨rfl, rfl⟩), h]

theorem lockoutExpiry (l : LineNo) (h : StoreLaw P s) : StoreLaw P (lockoutExpiry l s) := by
  unfold Machine.lockoutExpiry
  dsimp only
  split
  · split
    exacts [h.same ⟨rfl, rfl⟩, hP.qualifiedChange _ _ (h.same ⟨rfl, rfl⟩)]
  · exact h

theorem releaseExpiry (l : LineNo) (h : StoreLaw P s) : StoreLaw P (releaseExpiry l s) := by
  have ended : ∀ d i ln, StoreLaw P
      (if s.mode = .armed then Machine.appendTo i d (s.setLine l ln) else s.setLine l ln) := fun d i ln => by
    split
    exacts [hP.appendTo _ _ (h.same ⟨rfl, rfl⟩), h.same ⟨rfl, rfl⟩]
  unfold Machine.releaseExpiry
  dsimp only
  split
  · split
    exacts [ended _ _ _, hP.qualifiedChange _ _ (ended _ _ _)]
  · exact h

end SpoolInvariant
end Sys2Proof.Machine
end

section
/-! The commands that leave the store and the burst phase alone: link, cursors, notifications, settings, reports. -/

namespace Sys2Proof.Machine

namespace SameStore

variable {s t u : State}

theorem refl (s : State) : SameStore s s := ⟨rfl, rfl⟩

theorem trans (h : SameStore s t) (k : SameStore t u) : SameStore s u :=
  ⟨k.spools.trans h.spools, k.phase.trans h.phase⟩

theorem ite {c : Prop} [Decidable c] {t' : State} (h : SameStore s t) (k : SameStore s t') :
    SameStore s (if c then t else t') := by
  split
  exacts [h, k]

/-! ### Requests -/

variable {r r' : State × Reply}

theorem ite_request {c : Prop} [Decidable c] (h : SameStore s r.1) (k : SameStore s r'.1) :
    SameStore s (if c then r else r').1 := by
  split
  exacts [h, k]

theorem withFields {α : Type} {fields : Option α} {k : α → State → State × Reply}
    (h : ∀ a, SameStore s (k a s).1) : SameStore s (withFields fields k s).1 := by
  cases fields
  exacts [refl s, h _]

theorem inSetup {k : State → State × Reply} (h : SameStore s (k s).1) : SameStore s (inSetup k s).1 :=
  ite_request h (refl s)

theorem endStream (c : CursorNo) (reason : StreamEnd) (s : State) : SameStore s (endStream c reason s) := by
  unfold Machine.endStream
  split <;> exact ⟨rfl, rfl⟩

theorem onCursor {c : CursorNo} {body : Position → Body} {k : SpoolNo → Nat → State → State × Reply}
    (h : ∀ i pos, SameStore s (k i pos s).1) : SameStore s (onCursor c body k s).1 := by
  unfold Machine.onCursor
  dsimp only
  split
  · exact refl s
  · exact ite_request (refl s) (ite_request (refl s) (refl s))
  · exact ite_request (refl s) (ite_request (refl s) ⟨rfl, rfl⟩)
  · exact ite_request (refl s) (ite_request (refl s) (h _ _))

variable (p : List Byte) (s)

theorem setLine : SameStore s (setLineRequest p s).1 := withFields fun _ => inSetup ⟨rfl, rfl⟩

theorem setChatter : SameStore s (setChatterRequest p s).1 := withFields fun _ => inSetup ⟨rfl, rfl⟩

theorem setGroup : SameStore s (setGroupRequest p s).1 := withFields fun _ => inSetup ⟨rfl, rfl⟩

theorem setBurst : SameStore s (setBurstRequest p s).1 := withFields fun _ => inSetup ⟨rfl, rfl⟩

theorem setNote : SameStore s (setNoteRequest p s).1 := withFields fun _ => ⟨rfl, rfl⟩

theorem getSpool : SameStore s (getSpoolRequest p s).1 := withFields fun _ => refl s

theorem openCursor : SameStore s (openCursorRequest p s).1 := withFields fun f => by
  refine ite_request (refl s) (ite_request (refl s) ?_)
  split
  · exact refl s
  · exact (endStream f.1 .closed s).trans ⟨rfl, rfl⟩

theorem closeCursor : SameStore s (closeCursorRequest p s).1 := withFields fun c => by
  split
  · exact refl s
  · exact (endStream c .closed s).trans ⟨rfl, rfl⟩

theorem read : SameStore s (readRequest p s).1 :=
  withFields fun _ => onCursor fun _ _ => ite_request (refl s) ⟨rfl, rfl⟩

theorem space : SameStore s (spaceRequest p s).1 := withFields fun _ => onCursor fun _ _ => ⟨rfl, rfl⟩

theorem skip : SameStore s (skipRequest p s).1 := withFields fun _ => onCursor fun _ _ => ⟨rfl, rfl⟩

theorem stream : SameStore s (streamRequest p s).1 := withFields fun _ => onCursor fun _ _ => ⟨rfl, rfl⟩

theorem stopStream : SameStore s (stopStreamRequest p s).1 := withFields fun c => by
  split <;> exact ⟨rfl, rfl⟩

theorem listSegments : SameStore s (listSegmentsRequest p s).1 :=
  withFields fun _ => ite_request (refl s) (ite_request (refl s) (refl s))

theorem credit : SameStore s (creditRequest p s).1 := withFields fun _ => ⟨rfl, rfl⟩

theorem ackNote : SameStore s (ackNoteRequest p s).1 := withFields fun _ => ite_request ⟨rfl, rfl⟩ (refl s)

/-! ### The link and the timers outside the store -/

theorem windowExpiry (l : LineNo) : SameStore s (windowExpiry l s) := ite ⟨rfl, rfl⟩ (refl s)

theorem acknowledgeExpiry (n : ClassNo) : SameStore s (acknowledgeExpiry n s) := ite ⟨rfl, rfl⟩ (refl s)

theorem gapExpiry : SameStore s (gapExpiry s) := ite ⟨rfl, rfl⟩ (refl s)

theorem lengthFault (b : Byte) : SameStore s (lengthFault b s) := by
  unfold Machine.lengthFault
  split
  exacts [ite (refl s) ⟨rfl, rfl⟩, refl s]

theorem characterError (stillLow : Bool) : SameStore s (characterError stillLow s) := by
  unfold Machine.characterError
  dsimp only
  split <;> exact ⟨rfl, rfl⟩

theorem lineHigh : SameStore s (lineHigh s) := by
  unfold Machine.lineHigh
  split <;> exact ⟨rfl, rfl⟩

theorem makeRefusal (tag : Byte) (code : Option Byte) (st : Status) : SameStore s (makeRefusal tag code st s) :=
  ite ⟨rfl, rfl⟩ ⟨rfl, rfl⟩

theorem handOn (body : List Byte) : SameStore s (handOn body s) := by
  unfold Machine.handOn
  split
  · exact ite (ite (makeRefusal s _ _ _) (ite (makeRefusal s _ _ _) ⟨rfl, rfl⟩)) (makeRefusal s _ _ _)
  · exact refl s

theorem frameArrival (low : Byte) : SameStore s (frameArrival low s) := by
  unfold Machine.frameArrival
  split
  · exact ite (SameStore.trans (t := s.setRx .hunt) ⟨rfl, rfl⟩ (handOn _ _)) ⟨rfl, rfl⟩
  · exact refl s

theorem linkBreak : SameStore s (linkBreak s) := by
  have counted : SameStore s (countFault breaks s) := ⟨rfl, rfl⟩
  have notes : ∀ u, SameStore u (breakNotes u) := fun _ => ⟨rfl, rfl⟩
  have cursors : ∀ u, SameStore u (breakCursors u) := fun _ => ⟨rfl, rfl⟩
  have link : ∀ u, SameStore u (breakLink u) := fun _ => ⟨rfl, rfl⟩
  exact ite (refl s) (((counted.trans (link _)).trans (cursors _)).trans (notes _))

theorem sendNote (c : ClassNo) : SameStore s (sendNote c s) := by
  unfold Machine.sendNote
  split <;> exact ⟨rfl, rfl⟩

theorem sendStream (c : CursorNo) : SameStore s (sendStream c s) := by
  unfold Machine.sendStream
  split <;> exact ⟨rfl, rfl⟩

theorem arbiterChoice : SameStore s (arbiterChoice s) := by
  unfold Machine.arbiterChoice
  split
  · exact refl s
  · split
    · exact ⟨rfl, rfl⟩
    · split
      · exact sendNote s _
      · split
        exacts [sendStream s _, refl s]

theorem completeTransmission : SameStore s (completeTransmission s) := by
  have told : ∀ f u, SameStore u (tellOwner f u) := fun f u => by
    unfold tellOwner
    split <;> exact ⟨rfl, rfl⟩
  unfold Machine.completeTransmission
  split
  · exact ite (SameStore.trans (t := s.setLink { s.link with path := none }) ⟨rfl, rfl⟩ (told _ _)) (refl s)
  · exact refl s

end SameStore

end Sys2Proof.Machine
end

section
/-! Every command and every step keeps a `SpoolInvariant`, but for the commands that give a spool its configuration. -/

namespace Sys2Proof.Machine

variable {P : SpoolNo → Bool → Spool → Prop} {s t : State}

theorem StoreLaw.awake {f : State → State} (h : StoreLaw P s) (hf : StoreLaw P s → StoreLaw P (f s)) :
    StoreLaw P (awake f s) := by
  unfold Machine.awake
  split
  exacts [h, hf h]

theorem StoreLaw.serve {row : Instr} {f : List Byte → State → State × Reply} (h : StoreLaw P s)
    (hf : ∀ p u, StoreLaw P u → StoreLaw P (f p u).1) : StoreLaw P (serve row f s) := by
  obtain ⟨r, rest, -, -, e⟩ | ⟨-, e⟩ := serve_cases row f s <;> rw [e]
  · exact StoreLaw.same (hf r.payload (s.setLink { s.link with intake := rest }) (h.same ⟨rfl, rfl⟩)) ⟨rfl, rfl⟩
  · exact h

theorem StoreLaw.ite_request {c : Prop} [Decidable c] {r r' : State × Reply} (h : StoreLaw P r.1)
    (k : StoreLaw P r'.1) : StoreLaw P (if c then r else r').1 := by
  split
  exacts [h, k]

theorem StoreLaw.withFields {α : Type} {fields : Option α} {k : α → State → State × Reply} (h : StoreLaw P s)
    (hk : ∀ a, StoreLaw P (k a s).1) : StoreLaw P (withFields fields k s).1 := by
  cases fields
  exacts [h, hk _]

namespace SpoolInvariant

variable (hP : SpoolInvariant P)
include hP

/-! ### Modes and time -/

theorem recordMode (m : Mode) (cause : ModeCause) (h : StoreLaw P s) : StoreLaw P (recordMode m cause s) :=
  hP.appendToAll _ h

theorem armRequest (p : List Byte) (h : StoreLaw P s) : StoreLaw P (armRequest p s).1 := by
  have settled : StoreLaw P (standGroups (armLines (s.setMode .armed))) := h.same ⟨rfl, rfl⟩
  have armed : StoreLaw P (Machine.recording armRecorder s) := hP.recording (hP.recordMode .armed .arm settled)
  refine StoreLaw.ite_request ?_ h
  split
  exacts [h, armed]

theorem holdRequest (p : List Byte) (h : StoreLaw P s) : StoreLaw P (holdRequest p s).1 := by
  have ended := hP.endBurstEarly .held h
  have settled : StoreLaw P ((Machine.endBurstEarly .held s).setMode .hold) := ended.same ⟨rfl, rfl⟩
  have held : StoreLaw P (Machine.recording holdRecorder s) := hP.recording (hP.recordMode .hold .hold settled)
  exact StoreLaw.ite_request held h

theorem resumeRequest (p : List Byte) (h : StoreLaw P s) : StoreLaw P (resumeRequest p s).1 := by
  have settled : StoreLaw P (standGroups (s.setMode .armed)) := h.same ⟨rfl, rfl⟩
  have resumed : StoreLaw P (Machine.recording resumeRecorder s) := hP.recording (hP.recordMode .armed .resume settled)
  exact StoreLaw.ite_request resumed h

theorem disarmRequest (p : List Byte) (h : StoreLaw P s) : StoreLaw P (disarmRequest p s).1 := by
  have ended := hP.endBurstEarly .disarmed h
  have settled : StoreLaw P (groupsOff (disarmLines ((Machine.endBurstEarly .disarmed s).setMode .setup))) :=
    ended.same ⟨rfl, rfl⟩
  have disarmed : StoreLaw P (Machine.recording disarmRecorder s) :=
    hP.recording (hP.recordMode .setup .disarm settled)
  exact StoreLaw.ite_request h disarmed

theorem resetRequest (p : List Byte) (h : StoreLaw P s) : StoreLaw P (resetRequest p s).1 := by
  have abandoned := hP.abandonBurst h
  have dropped : StoreLaw P (resetRecording s) := abandoned.same ⟨rfl, rfl⟩
  have readout : ∀ u, SameStore u (resetReadout u) := fun _ => ⟨rfl, rfl⟩
  have notes : ∀ u, SameStore u (resetNotes u) := fun _ => ⟨rfl, rfl⟩
  exact (hP.recording dropped).same ((readout _).trans (notes _))

theorem setTimeRequest (p : List Byte) (h : StoreLaw P s) : StoreLaw P (setTimeRequest p s).1 := by
  refine hP.recording ?_
  unfold stepTime
  dsimp only
  split
  exacts [hP.appendToAll _ (h.same ⟨rfl, rfl⟩), h.same ⟨rfl, rfl⟩]

theorem setReferenceRequest (p : List Byte) (h : StoreLaw P s) : StoreLaw P (setReferenceRequest p s).1 :=
  h.withFields fun f => by
    have stored : StoreLaw P (storeReference f.1 f.2 s) := h.same ⟨rfl, rfl⟩
    refine StoreLaw.ite_request (hP.closeEvent _ (hP.appendTo _ _ ?_)) stored
    exact stored.same ⟨rfl, rfl⟩

/-! ### The store's requests -/

theorem cutRequest (p : List Byte) (h : StoreLaw P s) : StoreLaw P (cutRequest p s).1 :=
  h.withFields fun i => by
    refine StoreLaw.ite_request h (StoreLaw.ite_request h (StoreLaw.ite_request h ?_))
    split
    · exact h
    · exact StoreLaw.ite_request h (hP.closeEvent s (hP.append i _ h))

theorem releaseRequest (p : List Byte) (h : StoreLaw P s) : StoreLaw P (releaseRequest p s).1 :=
  h.withFields fun f => by
    have released : StoreLaw P (releaseSpool f.1 f.2 s) :=
      StoreLaw.same (h.setSpool (hP.removeOldest (s.spools[f.1].releaseCount f.2) (h f.1))) ⟨rfl, rfl⟩
    exact StoreLaw.ite_request h (StoreLaw.ite_request h (hP.recording released))

theorem pinRequest (p : List Byte) (h : StoreLaw P s) : StoreLaw P (pinRequest p s).1 :=
  h.withFields fun f => by
    refine StoreLaw.ite_request h (StoreLaw.ite_request h ?_)
    split
    · exact h
    · next hseg =>
      split
      · exact h
      · next hpin =>
        split
        · exact h
        · next hlen => exact h.setSpool (hP.pinned (h f.1) (by simpa using hseg) hpin (Nat.lt_of_not_le hlen))

theorem unpinRequest (p : List Byte) (h : StoreLaw P s) : StoreLaw P (unpinRequest p s).1 :=
  h.withFields fun f => StoreLaw.ite_request h
    (StoreLaw.ite_request h (h.setSpool (hP.fewerPins (h f.1) List.filter_sublist)))

theorem takeErase (h : StoreLaw P s) : StoreLaw P (takeErase s) := by
  unfold Machine.takeErase
  split
  · next r rest _ =>
    have taken : StoreLaw P (s.setLink { s.link with intake := rest }) := h.same ⟨rfl, rfl⟩
    split
    · dsimp only
      split
      · next i _ _ => exact StoreLaw.same (hP.recording (hP.startErase i taken)) ⟨rfl, rfl⟩
      · exact taken.same ⟨rfl, rfl⟩
    · exact h
  · exact h

theorem completeErase (i : SpoolNo) (h : StoreLaw P s) : StoreLaw P (completeErase i s) := by
  have finished : StoreLaw P (s.setSpool i s.spools[i].finishErase) := hP.finishErase h
  unfold Machine.completeErase
  dsimp only
  split
  · exact h
  · split
    exacts [finished.same ⟨rfl, rfl⟩, finished]

theorem getCountersRequest (p : List Byte) (h : StoreLaw P s) : StoreLaw P (getCountersRequest p s).1 :=
  h.withFields fun clear => by
    cases clear
    · exact h
    · refine hP.allAlike h (fun _ => rfl) fun i => ?_
      show Spool.Alike _ (mapV _ s.spools)[i]
      rw [mapV_get]
      exact ⟨rfl, rfl, rfl, rfl, rfl, rfl, id⟩

/-! ### Elapsed time and RSTn -/

theorem elapse (n : Nat) (h : StoreLaw P s) : StoreLaw P (elapse n s) := by
  refine hP.allAlike h (fun i => ?_) fun i => ?_
  · show (s.burst.phase.elapse n).isOn i = _
    cases s.burst.phase <;> rfl
  · show Spool.Alike _ (mapV _ s.spools)[i]
    rw [mapV_get]
    exact ⟨rfl, rfl, rfl, rfl, rfl, rfl, fun e => by simpa [Spool.elapse, tickTimer] using e⟩

theorem rstnLow (h : StoreLaw P s) : StoreLaw P (rstnLow s) :=
  hP.allAlike h (fun _ => rfl) fun i => by
    show Spool.Alike _ (mapV _ s.spools)[i]
    rw [mapV_get]
    exact ⟨rfl, rfl, rfl, rfl, rfl, rfl, nofun⟩

end SpoolInvariant

/-- The commands that give a spool its configuration: SET_SPOOL, PIN_RESET and POWER_ON. -/
def Instr.configuresSpool : Sys2Proof.Instr → Bool
  | .setSpool | .pinReset _ _ _ | .powerOn _ _ _ => true
  | _ => false

theorem next_eq {u : State} (h : (.next u : Host.Outcome State Fault Refusal) = .next t) : u = t := by
  cases h
  rfl

/-- Every command but those that configure a spool keeps the property. -/
theorem SpoolInvariant.exec (hP : SpoolInvariant P) {c : Instr} (hc : Instr.configuresSpool c = false)
    (h : StoreLaw P s) (e : exec c s = .next t) : StoreLaw P t := by
  have quiet : ∀ {row} {f : List Byte → State → State × Reply} {s}, (∀ s p, SameStore s (f p s).1) →
      StoreLaw P s → StoreLaw P (Machine.awake (Machine.serve row f) s) := fun hf h =>
    h.awake fun h => h.serve fun p u k => k.same (hf u p)
  have rest : ∀ {row} {f : List Byte → State → State × Reply} {s}, (∀ p u, StoreLaw P u → StoreLaw P (f p u).1) →
      StoreLaw P s → StoreLaw P (Machine.awake (Machine.serve row f) s) := fun hf h => h.awake fun h => h.serve hf
  cases c with
  | arm => exact next_eq e ▸ rest (fun p _ => hP.armRequest p) h
  | hold => exact next_eq e ▸ rest (fun p _ => hP.holdRequest p) h
  | resume => exact next_eq e ▸ rest (fun p _ => hP.resumeRequest p) h
  | disarm => exact next_eq e ▸ rest (fun p _ => hP.disarmRequest p) h
  | reset => exact next_eq e ▸ rest (fun p _ => hP.resetRequest p) h
  | setLine => exact next_eq e ▸ quiet SameStore.setLine h
  | setChatter => exact next_eq e ▸ quiet SameStore.setChatter h
  | setGroup => exact next_eq e ▸ quiet SameStore.setGroup h
  | setReference => exact next_eq e ▸ rest (fun p _ => hP.setReferenceRequest p) h
  | setSpool => exact nomatch hc
  | setBurst => exact next_eq e ▸ quiet SameStore.setBurst h
  | setNote => exact next_eq e ▸ quiet SameStore.setNote h
  | setTime => exact next_eq e ▸ rest (fun p _ => hP.setTimeRequest p) h
  | getTime => exact next_eq e ▸ quiet (fun s _ => SameStore.refl s) h
  | cut => exact next_eq e ▸ rest (fun p _ => hP.cutRequest p) h
  | release => exact next_eq e ▸ rest (fun p _ => hP.releaseRequest p) h
  | pin => exact next_eq e ▸ rest (fun p _ => hP.pinRequest p) h
  | unpin => exact next_eq e ▸ rest (fun p _ => hP.unpinRequest p) h
  | erase => exact next_eq e ▸ h.awake hP.takeErase
  | getSpool => exact next_eq e ▸ quiet SameStore.getSpool h
  | openCursor => exact next_eq e ▸ quiet SameStore.openCursor h
  | closeCursor => exact next_eq e ▸ quiet SameStore.closeCursor h
  | read => exact next_eq e ▸ quiet SameStore.read h
  | space => exact next_eq e ▸ quiet SameStore.space h
  | skip => exact next_eq e ▸ quiet SameStore.skip h
  | stream => exact next_eq e ▸ quiet SameStore.stream h
  | stopStream => exact next_eq e ▸ quiet SameStore.stopStream h
  | listSegments => exact next_eq e ▸ quiet SameStore.listSegments h
  | credit => exact next_eq e ▸ quiet SameStore.credit h
  | ackNote => exact next_eq e ▸ quiet SameStore.ackNote h
  | getStatus => exact next_eq e ▸ quiet (fun s _ => SameStore.refl s) h
  | getCounters => exact next_eq e ▸ rest (fun p _ => hP.getCountersRequest p) h
  | identify => exact next_eq e ▸ quiet (fun s _ => SameStore.refl s) h
  | badRequestTaken => exact next_eq e ▸ quiet (fun s _ => SameStore.refl s) h
  | rawChange l pin => exact next_eq e ▸ h.awake fun h => hP.recording (hP.rawChange l pin h)
  | settlingTimerExpiry l => exact next_eq e ▸ h.awake fun h => hP.recording (hP.settlingExpiry l h)
  | lockoutExpiry l => exact next_eq e ▸ h.awake fun h => hP.recording (hP.lockoutExpiry l h)
  | chatterWindowExpiry l => exact next_eq e ▸ h.awake fun h => h.same (SameStore.windowExpiry s l)
  | releaseTimerExpiry l => exact next_eq e ▸ h.awake fun h => hP.recording (hP.releaseExpiry l h)
  | deadlineExpiry => exact next_eq e ▸ h.awake fun h => hP.recording (hP.deadline h)
  | cooldownExpiry => exact next_eq e ▸ h.awake SpoolInvariant.cooldownEnd
  | acknowledgeTimerExpiry n => exact next_eq e ▸ h.awake fun h => h.same (SameStore.acknowledgeExpiry s n)
  | gapTimeout => exact next_eq e ▸ h.awake fun h => h.same (SameStore.gapExpiry s)
  | eraseCompletion i => exact next_eq e ▸ h.awake (hP.completeErase i)
  | frameArrival b => exact next_eq e ▸ h.awake fun h => h.same (SameStore.frameArrival s b)
  | lengthFault b => exact next_eq e ▸ h.awake fun h => h.same (SameStore.lengthFault s b)
  | characterError low => exact next_eq e ▸ h.awake fun h => h.same (SameStore.characterError s low)
  | linkBreak => exact next_eq e ▸ h.awake fun h => h.same (SameStore.linkBreak s)
  | arbiterChoice => exact next_eq e ▸ h.awake fun h => h.same (SameStore.arbiterChoice s)
  | transmissionCompletion => exact next_eq e ▸ h.awake fun h => h.same (SameStore.completeTransmission s)
  | rstnLow => exact next_eq e ▸ hP.rstnLow h
  | pinReset => exact nomatch hc
  | powerOn => exact nomatch hc
  | characterReceived b => exact next_eq e ▸ h.awake fun h => h.same ⟨rfl, rfl⟩
  | receiveLineReturnsHigh => exact next_eq e ▸ h.awake fun h => h.same (SameStore.lineHigh s)

/-- Everything a step can do: carry out a command with some queue, stand still in reset, or let 1 µs pass. -/
theorem step_cases (h : step s = .next t) :
    (∃ c p, exec c { s with pending := p } = .next t) ∨ t = s ∨ t = elapse 1 s := by
  unfold step at h
  split at h
  · exact .inl ⟨_, _, h⟩
  · unfold idle at h
    split at h
    · exact .inr (.inl (next_eq h).symm)
    · split at h
      · exact .inl ⟨_, s.pending, h⟩
      · exact .inr (.inr (next_eq h).symm)

/-- A step keeps the property where the commands that configure a spool do. -/
theorem SpoolInvariant.step (hP : SpoolInvariant P) (h : StoreLaw P s) (e : step s = .next t)
    (hc : ∀ c p, Instr.configuresSpool c = true → Machine.exec c { s with pending := p } = .next t → StoreLaw P t) :
    StoreLaw P t := by
  obtain ⟨c, p, e⟩ | rfl | rfl := step_cases e
  · cases hr : Instr.configuresSpool c
    · have queued : StoreLaw P { s with pending := p } := h.same ⟨rfl, rfl⟩
      exact hP.exec hr queued e
    · exact hc c p hr e
  · exact h
  · exact hP.elapse 1 h

end Sys2Proof.Machine
end

section
/-! Room in a spool and what making it removes (R12 to R14, R35), and the closed form of an opening (R22). -/

namespace Sys2Proof.Machine

namespace Spool

variable (sp : Spool)

/-- How many records an overwrite may remove (R14, R35). -/
def removable : Nat :=
  match sp.policy with
  | .halt => 0
  | .wrap => sp.removableRun.length

theorem removable_le : sp.removable ≤ sp.held.length := by
  unfold removable
  split
  · exact Nat.zero_le _
  · exact (List.takeWhile_sublist _).length_le

/-- Room is numbers to give and slots to take (R12, R13, R35). -/
theorem room_iff (k : Nat) (opening : Bool) :
    sp.room k opening = true ↔ sp.numbersAllow k opening = true ∧ k ≤ sp.free + sp.removable := by
  unfold room removable
  cases sp.policy <;> simp

theorem overwriteCount_eq (k : Nat) : sp.overwriteCount k = min (k - sp.free) sp.removable := by
  unfold overwriteCount removable
  cases sp.policy <;> simp

/-- With room for `k`, exactly as many records go as free slots are missing (R14). -/
theorem overwriteCount_of_room {k : Nat} {opening : Bool} (h : sp.room k opening = true) :
    sp.overwriteCount k = k - sp.free := by
  rw [overwriteCount_eq]
  have := ((sp.room_iff k opening).1 h).2
  omega

theorem removable_eq (h : 0 < sp.removable) : sp.policy = .wrap ∧ sp.removable = sp.removableRun.length := by
  unfold removable at h ⊢
  split at h
  · exact absurd h (Nat.lt_irrefl 0)
  · next hp => rw [hp]; exact ⟨rfl, rfl⟩

theorem removable_le_run : sp.removable ≤ sp.removableRun.length := by
  unfold removable
  split
  exacts [Nat.zero_le _, le_rfl]

/-- No record of a pinned segment is among the removable ones (R35). -/
theorem seg_not_pinned {n : Nat} (h : n ≤ sp.removable) {r : Record} (hr : r ∈ sp.held.take n) : r.seg ∉ sp.pins := by
  obtain ⟨rest, he⟩ := List.takeWhile_prefix (l := sp.held) fun r => !sp.pins.contains r.seg
  rw [← he] at hr
  change r ∈ List.take n (sp.removableRun ++ rest) at hr
  rw [List.take_append_of_le_length (h.trans sp.removable_le_run)] at hr
  simpa using List.mem_takeWhile_imp (List.mem_of_mem_take hr)

/-- The removal of removable records leaves the pins (R32, R35). -/
theorem removeOldest_removable {n : Nat} (h : n ≤ sp.removable) :
    sp.removeOldest n = { sp with held := sp.held.drop n } := by
  have hpins : (sp.removeOldest n).pins = sp.pins := by
    refine List.filter_eq_self.2 fun p hp => ?_
    rw [Bool.or_eq_true]
    refine .inr ?_
    simp only [Bool.not_eq_true', List.any_eq_false, beq_iff_eq]
    exact fun r hr e => sp.seg_not_pinned h hr (e ▸ hp)
  rw [removeOldest_frame, hpins]

theorem makeRoom_eq (k : Nat) : sp.makeRoom k = { sp with held := sp.held.drop (sp.overwriteCount k) } :=
  sp.removeOldest_removable (by rw [overwriteCount_eq]; exact Nat.min_le_right _ _)

theorem makeRoom_of_room {k : Nat} {opening : Bool} (h : sp.room k opening = true) :
    sp.makeRoom k = { sp with held := sp.held.drop (k - sp.free) } := by
  rw [makeRoom_eq, sp.overwriteCount_of_room h]

/-- Placing a record that is no MARK (R13). -/
theorem place_record {d : Draft} (h : d.body.markInfo = none) : sp.place d = { sp with
    held := sp.held ++ [{ seq := sp.nextSeq, seg := sp.current.getD sp.nextSeg, first := sp.current.isNone,
                          inBurst := sp.burstSeg, draft := d }],
    nextSeq := sp.nextSeq + 1,
    nextSeg := if sp.current.isSome then sp.nextSeg else sp.nextSeg + 1,
    current := some (sp.current.getD sp.nextSeg),
    segCount := satAdd max32 (if sp.current.isSome then sp.segCount else 0) 1 } := by
  have hr : sp.newRecord d = { seq := sp.nextSeq, seg := sp.current.getD sp.nextSeg, first := sp.current.isNone,
                               inBurst := sp.burstSeg, draft := d } := by
    unfold newRecord
    split
    · next hb => rw [hb] at h; exact nomatch h
    · rfl
  unfold place
  rw [h]
  simp only [hr, Option.isSome_none, Bool.false_eq_true, if_false]

/-- Placing a MARK on an open segment (R13): it closes the segment and counts its records. -/
theorem place_mark {seg : Nat} (reason : MarkReason) (n : Nat) (id : Option Nat) (t : Nat) (h : sp.current = some seg) :
    sp.place { body := .mark reason n id, timestamp := t } = { sp with
      held := sp.held ++ [{ seq := sp.nextSeq, seg, first := false, inBurst := sp.burstSeg,
                            draft := { body := .mark reason sp.segCount id, timestamp := t } }],
      nextSeq := sp.nextSeq + 1, current := none, burstSeg := false } := by
  simp [place, newRecord, h, RecordBody.markInfo]

end Spool

/-! ### Slots taken one after the other -/

/-- After fewer entries than satisfy a condition at the front, one that satisfies it follows. -/
theorem takeWhile_drop_append_pos {α : Type} {p : α → Bool} {n : Nat} (l l' : List α) (h : n < (l.takeWhile p).length) :
    1 ≤ ((l.drop n ++ l').takeWhile p).length := by
  have hn : n < l.length := h.trans_le (List.takeWhile_prefix p).length_le
  have hp : p l[n] = true := by
    rw [← (List.takeWhile_prefix p).getElem h]
    exact List.mem_takeWhile_imp (List.getElem_mem h)
  rw [List.drop_eq_getElem_cons hn, List.cons_append, List.takeWhile_cons_of_pos hp, List.length_cons]
  omega

/-- `q` is spool `sp` with `j` more slots taken: by the records `rs` and, where it is set aside, by the reservation; the
oldest records of `sp` have gone as far as slots were missing. -/
structure Spool.Taken (sp : Spool) (j : Nat) (rs : List Record) (q : Spool) : Prop where
  capacity : q.capacity = sp.capacity
  policy : q.policy = sp.policy
  pins : q.pins = sp.pins
  held : q.held = sp.held.drop (j - sp.free) ++ rs
  slots : rs.length + q.reservation.toNat = j + sp.reservation.toNat

namespace Spool.Taken

variable {sp q : Spool} {j : Nat} {rs : List Record} (h : sp.Taken j rs q)
include h

/-- One slot more can still be had where `sp` had room for one slot more. -/
theorem slot (hj : j + 1 ≤ sp.free + sp.removable) :
    1 ≤ q.free + q.removable ∧ q.overwriteCount 1 = (j + 1 - sp.free) - (j - sp.free) := by
  have hfree : sp.free = sp.capacity - (sp.held.length + sp.reservation.toNat) := rfl
  have hqfree : q.free = sp.capacity - ((sp.held.length - (j - sp.free)) + rs.length + q.reservation.toNat) := by
    unfold Spool.free Spool.occupancy
    rw [h.held, h.capacity, List.length_append, List.length_drop]
    rfl
  have hle := sp.removable_le
  have hslots := h.slots
  rw [q.overwriteCount_eq]
  by_cases hlt : j < sp.free
  · omega
  · have hrun : 1 ≤ q.removable := by
      obtain ⟨hwrap, hlen⟩ := sp.removable_eq (by omega)
      have hq : q.removable = q.removableRun.length := by unfold Spool.removable; rw [h.policy, hwrap]
      rw [hq, Spool.removableRun, h.pins, h.held]
      exact takeWhile_drop_append_pos _ _ (by rw [Spool.removableRun] at hlen; omega)
    omega

theorem makeRoom (hj : j + 1 ≤ sp.free + sp.removable) :
    q.makeRoom 1 = { q with held := sp.held.drop (j + 1 - sp.free) ++ rs } := by
  have hle := sp.removable_le
  rw [q.makeRoom_eq, (h.slot hj).2, h.held, List.drop_append_of_le_length, List.drop_drop]
  · congr 3
    omega
  · rw [List.length_drop]
    omega

end Spool.Taken

end Sys2Proof.Machine
end

section
/-! The closed form of an opening (R22): with room for it, what it leaves of its spool. -/

namespace Sys2Proof.Machine

namespace Spool

variable (sp : Spool) (now : Nat)

/-- The MARK that closes an open segment at an opening (R22). -/
def startMark : List Record :=
  match sp.current with
  | some seg =>
      [{ seq := sp.nextSeq, seg, first := false, inBurst := sp.burstSeg,
         draft := { body := .mark .burstStart sp.segCount none, timestamp := now } }]
  | none => []

/-- The LOSS record of a tally that an opening places in the burst segment, numbered `seq` (R16, R22). -/
def openingLoss (seq : Nat) : List Record :=
  match sp.tally with
  | some ty => [{ seq, seg := sp.nextSeg, first := false, inBurst := true, draft := lossDraft now ty }]
  | none => []

theorem startMark_length : (sp.startMark now).length = sp.current.isSome.toNat := by
  unfold startMark
  cases sp.current <;> rfl

theorem openingLoss_length (seq : Nat) : (sp.openingLoss now seq).length = sp.tally.isSome.toNat := by
  unfold openingLoss
  cases sp.tally <;> rfl

variable {sp}

theorem taken_self : sp.Taken 0 [] sp := ⟨rfl, rfl, rfl, by simp, by simp⟩

/-- The slot set aside and the open segment closed, with room for both (R22). -/
theorem closedForOpening_eq (hres : sp.reservation = false)
    (hroom : 1 + sp.current.isSome.toNat ≤ sp.free + sp.removable) :
    sp.closedForOpening now = { sp with
      held := sp.held.drop (1 + sp.current.isSome.toNat - sp.free) ++ sp.startMark now,
      nextSeq := sp.nextSeq + sp.current.isSome.toNat, current := none,
      burstSeg := sp.current.isNone && sp.burstSeg, reservation := true } := by
  have aside : { sp.makeRoom 1 with reservation := true } =
      { sp with held := sp.held.drop (1 - sp.free), reservation := true } := by
    rw [taken_self.makeRoom (by omega), List.append_nil]
  have taken : sp.Taken 1 [] { sp with held := sp.held.drop (1 - sp.free), reservation := true } :=
    ⟨rfl, rfl, rfl, by simp, by simp [hres]⟩
  unfold closedForOpening startMark
  cases hc : sp.current with
  | none => simp [aside, hc]
  | some seg =>
    rw [hc] at hroom
    dsimp only [Option.isSome_some] at hroom ⊢
    rw [if_pos rfl, aside, taken.makeRoom hroom]
    refine Eq.trans (place_mark _ _ _ _ _ (seg := seg) ?_) ?_
    · exact hc
    · simp

variable (sp) in
/-- A spool with its slot set aside, its open segment closed and the BURST_OPEN record `d` placed (R22). -/
def burstOpened (d : Draft) : Spool := { sp with
  held := sp.held.drop (2 + sp.current.isSome.toNat - sp.free) ++ (sp.startMark now ++
    [{ seq := sp.nextSeq + sp.current.isSome.toNat, seg := sp.nextSeg, first := true, inBurst := true, draft := d }]),
  nextSeq := sp.nextSeq + sp.current.isSome.toNat + 1, nextSeg := sp.nextSeg + 1, current := some sp.nextSeg,
  segCount := 1, burstSeg := true, reservation := true }

theorem burstOpened_eq {d : Draft} (hd : d.body.markInfo = none) (hres : sp.reservation = false)
    (hroom : 2 + sp.current.isSome.toNat ≤ sp.free + sp.removable) :
    ({ sp.closedForOpening now with burstSeg := true }.makeRoom 1).place d = sp.burstOpened now d := by
  have taken : sp.Taken (1 + sp.current.isSome.toNat) (sp.startMark now)
      { sp with
        held := sp.held.drop (1 + sp.current.isSome.toNat - sp.free) ++ sp.startMark now,
        nextSeq := sp.nextSeq + sp.current.isSome.toNat, current := none, burstSeg := true, reservation := true } :=
    ⟨rfl, rfl, rfl, rfl, by simp [startMark_length, hres]; omega⟩
  rw [closedForOpening_eq now hres (by omega), taken.makeRoom (by omega)]
  refine (place_record _ hd).trans ?_
  simp only [Option.getD_none, Option.isSome_none, Option.isNone_none, Bool.false_eq_true, if_false, List.append_assoc]
  rw [show 1 + sp.current.isSome.toNat + 1 = 2 + sp.current.isSome.toNat by omega]
  rfl

theorem burstOpened_taken {d : Draft} (hres : sp.reservation = false) :
    sp.Taken (2 + sp.current.isSome.toNat)
      (sp.startMark now ++ [{ seq := sp.nextSeq + sp.current.isSome.toNat, seg := sp.nextSeg, first := true,
                              inBurst := true, draft := d }]) (sp.burstOpened now d) :=
  ⟨rfl, rfl, rfl, rfl, by simp [burstOpened, startMark_length, hres]; omega⟩

/-- The spool of an opening when the TRIP record is asked for, with room for the opening (R22, R100). -/
theorem beforeTrip_eq {d : Draft} (hd : d.body.markInfo = none) (hres : sp.reservation = false)
    (hroom : openingNeed sp ≤ sp.free + sp.removable) :
    sp.beforeTrip now d = { sp.burstOpened now d with
      held := sp.held.drop (2 + sp.current.isSome.toNat + sp.tally.isSome.toNat - sp.free) ++ (sp.startMark now ++
        [{ seq := sp.nextSeq + sp.current.isSome.toNat, seg := sp.nextSeg, first := true, inBurst := true, draft := d }]
        ++ sp.openingLoss now (sp.nextSeq + sp.current.isSome.toNat + 1)),
      nextSeq := sp.nextSeq + sp.current.isSome.toNat + 1 + sp.tally.isSome.toNat,
      segCount := 1 + sp.tally.isSome.toNat, tally := none } := by
  unfold openingNeed at hroom
  unfold beforeTrip openingLoss
  rw [burstOpened_eq now hd hres (by omega)]
  cases ht : sp.tally with
  | none => simp [burstOpened, ht]
  | some ty =>
    rw [ht, Option.isSome_some, Bool.toNat_true] at hroom
    dsimp only
    rw [(burstOpened_taken now hres).makeRoom (by omega), place_record _ rfl]
    simp [burstOpened, satAdd, max32]

end Spool
end Sys2Proof.Machine
end

section
/-! The commands that configure a spool: SET_SPOOL (R7 to R9) and the resets (R27). -/

namespace Sys2Proof.Machine

/-! ### The spools as a list -/

theorem spools_toList (s : State) : s.spools.toList = (List.finRange 4).map fun i => s.spools[i] := by
  refine List.ext_getElem (by simp) fun k h _ => ?_
  simp [Vector.getElem_toList]

theorem capacities_sum (s : State) :
    (s.spools.toList.map Spool.capacity).sum = ((List.finRange 4).map fun j => s.spools[j].capacity).sum := by
  rw [spools_toList, List.map_map]
  rfl

theorem foldl_add_eq_sum {α : Type} (f : α → Nat) (as : List α) (n : Nat) :
    as.foldl (fun n a => n + f a) n = n + (as.map f).sum := by
  induction as generalizing n with
  | nil => simp
  | cons a as ih => rw [List.foldl_cons, ih, List.map_cons, List.sum_cons, Nat.add_assoc]

/-- The sum check of a SET_SPOOL (R7). -/
theorem capacitySumOk_iff (s : State) (i : SpoolNo) (c : Nat) : capacitySumOk s i c = true ↔
    ((List.finRange 4).map fun j => if j = i then c else s.spools[j].capacity).sum ≤ 8192 := by
  unfold capacitySumOk
  rw [decide_eq_true_iff, foldl_add_eq_sum fun j => if j = i then c else s.spools[j].capacity, Nat.zero_add]
  rfl

/-! ### SET_SPOOL -/

/-- A spool with its settings stored (R8). -/
def Spool.withSettings (sp : Spool) (capacity : Nat) (policy : Policy) (threshold : Nat) : Spool :=
  { sp with
    capacity, policy, threshold, current := if capacity = sp.capacity then sp.current else none,
    burstSeg := if capacity = sp.capacity then sp.burstSeg else false }

/-- A spool with its settings stored and near-full compared (R8, R9). -/
def Spool.configured (sp : Spool) (capacity : Nat) (policy : Policy) (threshold : Nat) : Spool :=
  { sp.withSettings capacity policy threshold with
    nearFull := (sp.withSettings capacity policy threshold).nearFullAfterSet }

theorem setSpool_setSpool (i : SpoolNo) (sp sp' : Spool) (s : State) :
    (s.setSpool i sp).setSpool i sp' = s.setSpool i sp' := by
  unfold State.setSpool
  simp only [Vector.set_set]

theorem setNearFull_setSpool (i : SpoolNo) (nf : NearFull) (sp : Spool) (s : State) :
    setNearFull i nf (s.setSpool i sp) = if sp.nearFull = .below ∧ nf = .above then
      raise nearFullClass (.nearFull (single i)) (s.setSpool i { sp with nearFull := nf })
      else s.setSpool i { sp with nearFull := nf } := by
  unfold setNearFull
  rw [setSpool_spool, if_pos rfl]
  simp only [setSpool_setSpool]

theorem storeSpool_eq (i : SpoolNo) (capacity : Nat) (policy : Policy) (threshold : Nat) (s : State) :
    storeSpool i capacity policy threshold s =
      if s.spools[i].nearFull = .below ∧ (s.spools[i].configured capacity policy threshold).nearFull = .above then
        raise nearFullClass (.nearFull (single i)) (s.setSpool i (s.spools[i].configured capacity policy threshold))
      else s.setSpool i (s.spools[i].configured capacity policy threshold) := by
  have stored : (if capacity = s.spools[i].capacity then { s.spools[i] with capacity, policy, threshold }
      else { s.spools[i] with capacity, policy, threshold, current := none, burstSeg := false })
      = s.spools[i].withSettings capacity policy threshold := by
    unfold Spool.withSettings
    split <;> rfl
  unfold storeSpool
  dsimp only
  rw [stored, setNearFull_setSpool]
  rfl

theorem storeSpool_spool (i j : SpoolNo) (capacity : Nat) (policy : Policy) (threshold : Nat) (s : State) :
    (storeSpool i capacity policy threshold s).spools[j] =
      if i = j then s.spools[i].configured capacity policy threshold else s.spools[j] := by
  rw [storeSpool_eq]
  split <;> exact setSpool_spool i j _ s

theorem storeSpool_burst (i : SpoolNo) (capacity : Nat) (policy : Policy) (threshold : Nat) (s : State) :
    (storeSpool i capacity policy threshold s).burst = s.burst := by
  rw [storeSpool_eq]
  split <;> rfl

/-- The layout of a SET_SPOOL with every field in its own range (R7, R214). -/
theorem decodeSetSpool_eq_some {p : List Byte} {i : SpoolNo} {capacity threshold : Nat} {policy : Policy} :
    decodeSetSpool p = some (i, capacity, policy, threshold) ↔ below 4 (byteAt p 1) = some i ∧
      field p 2 2 = capacity ∧ capacityOk capacity = true ∧ policyOf (byteAt p 4) = some policy ∧
      field p 5 2 = threshold ∧ threshold ≤ capacity := by
  unfold decodeSetSpool
  cases hi : below 4 (byteAt p 1) with
  | none => simp
  | some j =>
    cases hok : capacityOk (field p 2 2) with
    | false =>
      refine iff_of_false (by simp) fun h => ?_
      obtain ⟨-, rfl, h, -⟩ := h
      exact nomatch hok.symm.trans h
    | true =>
      cases hp : policyOf (byteAt p 4) with
      | none => simp
      | some q =>
        simp only [if_true, bind, Option.bind_some, Option.bind_eq_some_iff, inRange_eq_some, Option.some.injEq,
          Prod.mk.injEq]
        constructor
        · rintro ⟨_, ⟨rfl, -, hle⟩, rfl, rfl, rfl, rfl⟩
          exact ⟨rfl, rfl, hok, rfl, rfl, hle⟩
        · rintro ⟨rfl, rfl, -, rfl, rfl, hle⟩
          exact ⟨_, ⟨rfl, Nat.zero_le _, hle⟩, rfl, rfl, rfl, rfl⟩

/-- What the fields of a SET_SPOOL promise (R7). -/
theorem setSpoolFields_ok {p : List Byte} {s : State} {i : SpoolNo} {capacity threshold : Nat} {policy : Policy}
    (h : setSpoolFields p s = some (i, capacity, policy, threshold)) :
    capacity % 64 = 0 ∧ threshold ≤ capacity ∧
      ((List.finRange 4).map fun j => if j = i then capacity else s.spools[j].capacity).sum ≤ 8192 := by
  obtain ⟨hd, hsum⟩ := Option.filter_eq_some_iff.1 h
  obtain ⟨-, -, hok, -, -, hle⟩ := decodeSetSpool_eq_some.1 hd
  simp only [capacityOk, Bool.and_eq_true, beq_iff_eq] at hok
  exact ⟨hok.1, hle, (capacitySumOk_iff s _ _).1 hsum⟩

/-- Everything a SET_SPOOL can do to the store (R8). -/
theorem setSpoolRequest_cases (p : List Byte) (s : State) : (setSpoolRequest p s).1 = s ∨
    ∃ i capacity policy threshold, setSpoolFields p s = some (i, capacity, policy, threshold) ∧
      (capacity ≠ s.spools[i].capacity →
        s.mode = .setup ∧ s.spools[i].held = [] ∧ s.spools[i].erasing.isSome = false) ∧
      (setSpoolRequest p s).1 = storeSpool i capacity policy threshold s := by
  unfold setSpoolRequest
  cases hf : setSpoolFields p s with
  | none => exact .inl rfl
  | some f =>
    obtain ⟨i, capacity, policy, threshold⟩ := f
    rw [withFields_some]
    dsimp only
    split
    · next hm =>
      split
      · exact .inl rfl
      · next hc => exact .inr ⟨i, capacity, policy, threshold, rfl, fun h => by simp_all, rfl⟩
    · split
      · exact .inl rfl
      · next hc => exact .inr ⟨i, capacity, policy, threshold, rfl, fun h => absurd (.inl h) hc, rfl⟩

/-- Everything a SET_SPOOL command can do to the store. -/
theorem exec_setSpool_cases {s t : State} (h : exec .setSpool s = .next t) : SameStore s t ∨
    ∃ (i : SpoolNo) (capacity : Nat) (policy : Policy) (threshold : Nat),
      capacity % 64 = 0 ∧ threshold ≤ capacity ∧
      ((List.finRange 4).map fun j => if j = i then capacity else s.spools[j].capacity).sum ≤ 8192 ∧
      (capacity ≠ s.spools[i].capacity →
        s.mode = .setup ∧ s.spools[i].held = [] ∧ s.spools[i].erasing.isSome = false) ∧
      (∀ j : SpoolNo, t.spools[j] = if i = j then s.spools[i].configured capacity policy threshold else s.spools[j]) ∧
      t.burst = s.burst := by
  have ht : awake (serve .setSpool setSpoolRequest) s = t := next_eq h
  unfold awake at ht
  split at ht
  · exact .inl (ht ▸ SameStore.refl s)
  · obtain ⟨r, rest, -, -, e⟩ | ⟨-, e⟩ := serve_cases .setSpool setSpoolRequest s <;> rw [e] at ht <;> subst ht
    · obtain e | ⟨i, capacity, policy, threshold, hf, hc, e⟩ :=
        setSpoolRequest_cases r.payload (s.setLink { s.link with intake := rest }) <;> rw [e]
      · exact .inl ⟨rfl, rfl⟩
      · obtain ⟨h64, hle, hsum⟩ := setSpoolFields_ok hf
        exact .inr ⟨i, capacity, policy, threshold, h64, hle, hsum, hc, fun j => storeSpool_spool i j _ _ _ _,
          storeSpool_burst i _ _ _ _⟩
    · exact .inl (SameStore.refl s)

/-! ### The resets -/

/-- The spools at pin reset (R27). -/
theorem atReset_spool (pins : LineSet) (speed : LinkSpeed) (i : SpoolNo) : (State.atReset pins speed).spools[i] =
    if i = 0 then Spool.atReset 8192 .wrap 7168 else Spool.atReset 0 .halt 0 := by
  show ((Vector.replicate 4 (Spool.atReset 0 .halt 0)).set (0 : SpoolNo) (Spool.atReset 8192 .wrap 7168))[i] = _
  rw [Vector_set_get]
  by_cases h : i = 0
  · simp [h]
  · simp [h, Ne.symm h]

/-- The commands that configure a spool are SET_SPOOL and the resets. -/
theorem exec_configures_cases {c : Instr} {s t : State} (hc : Instr.configuresSpool c = true)
    (h : exec c s = .next t) :
    c = .setSpool ∨ ∃ pins speed, (∀ i : SpoolNo, t.spools[i] = (State.atReset pins speed).spools[i]) ∧
      t.burst.phase = .idle := by
  unfold Instr.configuresSpool at hc
  split at hc
  · exact .inl rfl
  · next pins spd1 spd0 => exact .inr ⟨pins, speedOf spd1 spd0, next_eq h ▸ ⟨fun _ => rfl, rfl⟩⟩
  · next pins spd1 spd0 => exact .inr ⟨pins, speedOf spd1 spd0, next_eq h ▸ ⟨fun _ => rfl, rfl⟩⟩
  · exact nomatch hc

end Sys2Proof.Machine
end

section
/-! No step breaks the numbering of held records or the pin tables (R13, R32). -/

namespace Sys2Proof.Machine

namespace Spool.Numbered

variable {sp : Spool}

theorem beforeTrip (h : sp.Numbered) (now : Nat) (d : Draft) : (sp.beforeTrip now d).Numbered := by
  have closed : (sp.closedForOpening now).Numbered := by
    have aside : Spool.Numbered { sp.makeRoom 1 with reservation := true } := (h.makeRoom 1).frame rfl rfl rfl
    unfold Spool.closedForOpening
    dsimp only
    split
    exacts [(aside.makeRoom 1).place _, aside]
  have flagged : Spool.Numbered { sp.closedForOpening now with burstSeg := true } := closed.frame rfl rfl rfl
  have opened := (flagged.makeRoom 1).place d
  unfold Spool.beforeTrip
  dsimp only
  split
  · exact ((opened.makeRoom 1).place _).frame rfl rfl rfl
  · exact opened

theorem fill (h : sp.Numbered) (d : Draft) : (sp.fill d).Numbered := by
  have freed : Spool.Numbered { sp with reservation := false } := h.frame rfl rfl rfl
  exact freed.place d

/-- A spool that holds nothing and pins nothing is numbered. -/
theorem of_empty (hh : sp.held = []) (hp : sp.pins = []) : sp.Numbered where
  consecutive k hk := by rw [hh] at hk; exact nomatch hk
  pinCount := hp ▸ Nat.zero_le _
  pinOrder := hp ▸ .nil
  pinHeld p hm := by rw [hp] at hm; exact nomatch hm

/-- The numbering is an invariant of every spool, whether or not a burst is open on it. -/
theorem invariant : SpoolInvariant fun _ _ sp => sp.Numbered where
  alike h k := h.frame k.held k.nextSeq k.pins
  appended now d h := h.appended now d
  opening now d _ h _ _ := h.beforeTrip now d
  filled d h := h.fill d
  unreserved h := h.frame rfl rfl rfl
  removeOldest n h := h.removeOldest n
  pinned h hs hn hl := h.insertPin hs hn hl
  fewerPins h hs := h.fewerPins hs
  erasing _ h := h.frame rfl rfl rfl

end Spool.Numbered

/-- The commands that configure a spool keep the numbering. -/
theorem configuring_keeps_numbered {c : Instr} {s t : State} (hc : Instr.configuresSpool c = true)
    (e : exec c s = .next t) (h : ∀ i : SpoolNo, s.spools[i].Numbered) (i : SpoolNo) : t.spools[i].Numbered := by
  obtain rfl | ⟨pins, speed, hs, -⟩ := exec_configures_cases hc e
  · obtain k | ⟨j, capacity, policy, threshold, -, -, -, -, hs, -⟩ := exec_setSpool_cases e
    · rw [k.spools]
      exact h i
    · rw [hs]
      split
      · exact (h j).frame rfl rfl rfl
      · exact h i
  · rw [hs, atReset_spool]
    split <;> exact .of_empty rfl rfl

/-- Settles O58: the numbering and the pin table of a spool are kept by each operation of the store. -/
theorem stepKeepsSpoolLaws : Obligations.StepKeepsSpoolLaws := by
  intro s t hs hp e
  have numbered := (numbered_iff s).2 ⟨hs, hp⟩
  have law : StoreLaw (fun _ _ sp => sp.Numbered) s := numbered
  exact (numbered_iff t).1 (Spool.Numbered.invariant.step law e fun c p hc e =>
    configuring_keeps_numbered hc e numbered)

end Sys2Proof.Machine
end

section
/-! No step lets a spool outgrow its capacity, or a reservation stand without its burst (R7, R10, R23, R41, R96). -/

namespace Sys2Proof.Machine

/-- Settling a tally takes one slot (R16). -/
theorem Spool.settle_length (sp : Spool) (now : Nat) : (sp.settle now).held.length ≤ sp.held.length + 1 := by
  unfold Spool.settle
  split
  · exact List.length_append.le
  · exact Nat.le_succ _

theorem Spool.settle_keeps (sp : Spool) (now : Nat) :
    (sp.settle now).capacity = sp.capacity ∧ (sp.settle now).reservation = sp.reservation := by
  unfold Spool.settle
  split <;> exact ⟨rfl, rfl⟩

/-- One spool's part of the capacity law, `reserved` saying whether a burst is open on it (R7, R10, R96). -/
structure Spool.Fits (reserved : Bool) (sp : Spool) : Prop where
  size : sp.capacity % 64 = 0
  threshold : sp.threshold ≤ sp.capacity
  bound : sp.held.length + sp.reservation.toNat ≤ sp.capacity
  reserved : sp.reservation = reserved
  erasing : sp.erasing.isSome = true → sp.reservation = false

theorem BurstPhase.isOn_iff {p : BurstPhase} {i : SpoolNo} :
    p.isOn i = true ↔ ∃ b, p = .isOpen b ∧ b.spool = i := by
  cases p <;> simp [BurstPhase.isOn]

theorem capacityLaw_iff (s : State) : CapacityLaw s ↔
    StoreLaw (fun _ r sp => sp.Fits r) s ∧ ((List.finRange 4).map fun j => s.spools[j].capacity).sum ≤ 8192 := by
  rw [← capacities_sum]
  constructor
  · intro h
    refine ⟨fun i => ⟨h.sizes i, h.threshold i, h.bound i, ?_, h.erasing i⟩, h.total⟩
    rw [Bool.eq_iff_iff, h.reserved i, BurstPhase.isOn_iff]
  · rintro ⟨h, total⟩
    exact {
      sizes := fun i => (h i).size
      total := total
      threshold := fun i => (h i).threshold
      bound := fun i => (h i).bound
      reserved := fun i => by rw [(h i).reserved, BurstPhase.isOn_iff]
      erasing := fun i => (h i).erasing }

namespace Spool.Fits

variable {sp : Spool} {r : Bool}

/-- The law speaks of the configuration, the number of records, the reservation and the erase state alone. -/
theorem frame {sp' : Spool} (h : sp.Fits r) (hc : sp'.capacity = sp.capacity) (ht : sp'.threshold = sp.threshold)
    (hl : sp'.held.length ≤ sp.held.length) (hr : sp'.reservation = sp.reservation)
    (he : sp'.erasing.isSome = true → sp.erasing.isSome = true) : sp'.Fits r where
  size := hc ▸ h.size
  threshold := by rw [ht, hc]; exact h.threshold
  bound := by rw [hc, hr]; exact (Nat.add_le_add_right hl _).trans h.bound
  reserved := hr.trans h.reserved
  erasing k := hr.trans (h.erasing (he k))

theorem lose (h : sp.Fits r) (t : Nat) : (sp.lose t).Fits r := h.frame rfl rfl le_rfl rfl id

theorem removeOldest (h : sp.Fits r) (n : Nat) : (sp.removeOldest n).Fits r :=
  h.frame rfl rfl (List.length_drop.trans_le (Nat.sub_le _ _)) rfl id

/-- Making room for `k` where there is room leaves `k` slots (R12, R14). -/
theorem makeRoom_slots {k : Nat} (h : sp.Fits r) (hk : sp.room k = true) :
    (sp.makeRoom k).held.length + sp.reservation.toNat + k ≤ sp.capacity := by
  have hroom := ((sp.room_iff k false).1 hk).2
  have hle := sp.removable_le
  have hfree : sp.free = sp.capacity - (sp.held.length + sp.reservation.toNat) := rfl
  have hbound := h.bound
  rw [sp.makeRoom_of_room hk, List.length_drop]
  omega

/-- A record placed in a free slot. -/
theorem place (h : sp.Fits r) (d : Draft) (hs : sp.held.length + sp.reservation.toNat + 1 ≤ sp.capacity) :
    (sp.place d).Fits r where
  size := h.size
  threshold := h.threshold
  bound := by
    show (sp.held ++ [sp.newRecord d]).length + sp.reservation.toNat ≤ sp.capacity
    rw [List.length_append, List.length_singleton]
    omega
  reserved := h.reserved
  erasing := h.erasing

theorem settle {now : Nat} (h : sp.Fits r) (hs : sp.held.length + sp.reservation.toNat + 1 ≤ sp.capacity) :
    (sp.settle now).Fits r := by
  unfold Spool.settle
  split
  · exact (h.place _ hs).frame rfl rfl le_rfl rfl id
  · exact h

theorem appended (h : sp.Fits r) (now : Nat) (d : Draft) : (sp.appended now d).Fits r := by
  have made : ∀ k, (sp.makeRoom k).Fits r := fun k => h.removeOldest _
  unfold Spool.appended
  obtain ⟨-, e⟩ | ⟨-, -, e⟩ | ⟨-, -, -, hroom, e⟩ | ⟨ty, -, -, -, hroom, e⟩ | ⟨ty, -, -, -, -, hroom, e⟩ :=
    sp.append_cases now d
  all_goals rw [e]
  · exact h
  · exact h.lose _
  · exact (made 1).place d (h.makeRoom_slots hroom)
  · have slots : (sp.makeRoom 2).held.length + (sp.makeRoom 2).reservation.toNat + 2 ≤ (sp.makeRoom 2).capacity :=
      h.makeRoom_slots hroom
    have len := (sp.makeRoom 2).settle_length now
    obtain ⟨hcap, hres⟩ := (sp.makeRoom 2).settle_keeps now
    exact ((made 2).settle (by omega)).place d (by rw [hcap, hres]; omega)
  · exact ((made 1).settle (h.makeRoom_slots hroom)).lose _

/-- An opening with room for it leaves a slot for its TRIP record (R22, R100). -/
theorem beforeTrip {now : Nat} {d : Draft} (h : sp.Fits false) (hd : d.body.markInfo = none)
    (he : sp.erasing = none) (hroom : sp.room (openingNeed sp) true = true) : (sp.beforeTrip now d).Fits true := by
  have need := ((sp.room_iff _ _).1 hroom).2
  rw [Spool.beforeTrip_eq now hd h.reserved need]
  exact {
    size := h.size
    threshold := h.threshold
    bound := by
      have hle := sp.removable_le
      have hfree : sp.free = sp.capacity - (sp.held.length + sp.reservation.toNat) := rfl
      have hbound := h.bound
      unfold openingNeed at need
      simp only [Spool.burstOpened, List.length_append, List.length_drop, Spool.startMark_length,
        Spool.openingLoss_length, List.length_singleton, Bool.toNat_true]
      omega
    reserved := rfl
    erasing := fun k => by simp [Spool.burstOpened, he] at k }

theorem fill (h : sp.Fits true) (d : Draft) : (sp.fill d).Fits false where
  size := h.size
  threshold := h.threshold
  bound := by
    have := h.bound
    rw [h.reserved] at this
    show (sp.held ++ [_]).length + 0 ≤ sp.capacity
    rwa [List.length_append]
  reserved := rfl
  erasing _ := rfl

/-- The capacity law is an invariant of every spool. -/
theorem invariant : SpoolInvariant fun _ r sp => sp.Fits r where
  alike h k := h.frame k.capacity k.threshold (by rw [k.held]) k.reservation k.erasing
  appended now d h := h.appended now d
  opening _ _ hd h he hroom := h.beforeTrip hd he hroom
  filled d h := h.fill d
  unreserved h :=
    { size := h.size, threshold := h.threshold, bound := (Nat.le_add_right _ _).trans h.bound, reserved := rfl,
      erasing := fun _ => rfl }
  removeOldest n h := h.removeOldest n
  pinned h _ _ _ := h.frame rfl rfl le_rfl rfl id
  fewerPins h _ := h.frame rfl rfl le_rfl rfl id
  erasing _ h :=
    { size := h.size, threshold := h.threshold, bound := h.bound, reserved := h.reserved, erasing := fun _ => h.reserved }

end Spool.Fits

/-- No operation of the store changes a spool's capacity. -/
theorem capacity_invariant (capacity : SpoolNo → Nat) : SpoolInvariant fun i _ sp => sp.capacity = capacity i where
  alike h k := k.capacity.trans h
  appended now d h := (Spool.append_keeps _ now d).1.trans h
  opening now d _ h _ _ := by
    rw [← h]
    unfold Spool.beforeTrip
    dsimp only
    split
    all_goals
      unfold Spool.closedForOpening
      dsimp only
      split <;> rfl
  filled _ h := h
  unreserved h := h
  removeOldest _ h := h
  pinned h _ _ _ := h
  fewerPins h _ := h
  erasing _ h := h

/-- A property of a spool and another are one. -/
theorem SpoolInvariant.and {P Q : SpoolNo → Bool → Spool → Prop} (hP : SpoolInvariant P) (hQ : SpoolInvariant Q) :
    SpoolInvariant fun i r sp => P i r sp ∧ Q i r sp where
  alike h k := ⟨hP.alike h.1 k, hQ.alike h.2 k⟩
  appended now d h := ⟨hP.appended now d h.1, hQ.appended now d h.2⟩
  opening now d hd h he hroom := ⟨hP.opening now d hd h.1 he hroom, hQ.opening now d hd h.2 he hroom⟩
  filled d h := ⟨hP.filled d h.1, hQ.filled d h.2⟩
  unreserved h := ⟨hP.unreserved h.1, hQ.unreserved h.2⟩
  removeOldest n h := ⟨hP.removeOldest n h.1, hQ.removeOldest n h.2⟩
  pinned h hs hn hl := ⟨hP.pinned h.1 hs hn hl, hQ.pinned h.2 hs hn hl⟩
  fewerPins h hs := ⟨hP.fewerPins h.1 hs, hQ.fewerPins h.2 hs⟩
  erasing n h := ⟨hP.erasing n h.1, hQ.erasing n h.2⟩

/-- The resets leave every spool empty, within 8192 slots together (R27). -/
theorem capacityLaw_atReset {s : State} {pins : LineSet} {speed : LinkSpeed}
    (hs : ∀ i : SpoolNo, s.spools[i] = (State.atReset pins speed).spools[i]) (hp : s.burst.phase = .idle) :
    CapacityLaw s := by
  refine (capacityLaw_iff s).2 ⟨fun i => ?_, ?_⟩
  · rw [hp, hs, atReset_spool]
    split <;> exact ⟨by decide, by decide, by decide, rfl, fun _ => rfl⟩
  · simp only [hs, atReset_spool]
    decide

/-- A SET_SPOOL changes a capacity only where nothing is held, and never outgrows the part (R7, R8). -/
theorem setSpool_keeps_capacityLaw {s t : State} (hm : ModeLaw s) (h : CapacityLaw s) (e : exec .setSpool s = .next t) :
    CapacityLaw t := by
  obtain ⟨law, total⟩ := (capacityLaw_iff s).1 h
  obtain k | ⟨i, capacity, policy, threshold, h64, hle, hsum, hc, hs, hb⟩ := exec_setSpool_cases e
  · refine (capacityLaw_iff t).2 ⟨law.same k, ?_⟩
    rw [k.spools]
    exact total
  · refine (capacityLaw_iff t).2 ⟨fun j => ?_, ?_⟩
    · rw [hs, hb]
      split
      · next e =>
        subst e
        refine ⟨h64, hle, ?_, (law i).reserved, (law i).erasing⟩
        show s.spools[i].held.length + s.spools[i].reservation.toNat ≤ capacity
        by_cases hcap : capacity = s.spools[i].capacity
        · exact hcap ▸ (law i).bound
        · obtain ⟨hsetup, hheld, -⟩ := hc hcap
          have idle : s.burst.phase = .idle := by
            by_contra hb
            exact nomatch hsetup.symm.trans (hm.burst hb)
          have unreserved := (law i).reserved
          rw [idle] at unreserved
          rw [hheld, unreserved]
          exact Nat.zero_le _
      · exact law j
    · refine le_of_eq_of_le (congrArg List.sum (List.map_congr_left fun j _ => ?_)) hsum
      rw [hs]
      rcases eq_or_ne i j with rfl | hij
      · simp [Spool.configured, Spool.withSettings]
      · rw [if_neg hij, if_neg hij.symm]

theorem exec_keeps_capacityLaw {c : Instr} {s t : State} (hm : ModeLaw s) (h : CapacityLaw s)
    (e : exec c s = .next t) : CapacityLaw t := by
  cases hc : Instr.configuresSpool c
  · obtain ⟨law, total⟩ := (capacityLaw_iff s).1 h
    have both : StoreLaw (fun i r sp => sp.Fits r ∧ sp.capacity = s.spools[i].capacity) s := fun i => ⟨law i, rfl⟩
    have kept := (Spool.Fits.invariant.and (capacity_invariant fun i => s.spools[i].capacity)).exec hc both e
    refine (capacityLaw_iff t).2 ⟨fun i => (kept i).1, ?_⟩
    rwa [List.map_congr_left fun j _ => (kept j).2]
  · obtain rfl | ⟨pins, speed, hs, hp⟩ := exec_configures_cases hc e
    exacts [setSpool_keeps_capacityLaw hm h e, capacityLaw_atReset hs hp]

theorem elapse_keeps_capacityLaw {s : State} (h : CapacityLaw s) : CapacityLaw (elapse 1 s) := by
  obtain ⟨law, total⟩ := (capacityLaw_iff s).1 h
  have same := (capacity_invariant fun i => s.spools[i].capacity).elapse (s := s) 1 fun _ => rfl
  refine (capacityLaw_iff _).2 ⟨Spool.Fits.invariant.elapse 1 law, ?_⟩
  rwa [List.map_congr_left fun j _ => same j]

/-- Settles O59: the law of each spool and its capacity are kept by each operation of the store; SET_SPOOL, which changes
a capacity, is taken in SETUP, where no burst is open. -/
theorem stepKeepsCapacityLaw : Obligations.StepKeepsCapacityLaw := by
  intro s t hm h e
  obtain ⟨c, p, e⟩ | rfl | rfl := step_cases e
  · have modes : ModeLaw { s with pending := p } := { hm with }
    have capacities : CapacityLaw { s with pending := p } := { h with }
    exact exec_keeps_capacityLaw modes capacities e
  · exact h
  · exact elapse_keeps_capacityLaw h

end Sys2Proof.Machine
end

section
/-! The taking of a request as one event (R181 to R183): from what the request's meaning answers to the state after it. -/

namespace Sys2Proof.Machine

/-- The state in which a taken request is carried out: it has left the intake (R181). -/
def State.taking (s : State) (rest : List Request) : State := s.setLink { s.link with intake := rest }

/-- The taking of the oldest request: its meaning is carried out and the reply made ready. -/
theorem awake_serve {s : State} {row : Instr} {f : List Byte → State → State × Reply} {tag code : Byte}
    {fields : List Byte} {rest : List Request} (hs : s.inReset = false)
    (hi : s.link.intake = ⟨tag, code :: fields⟩ :: rest) (hrow : Request.row ⟨tag, code :: fields⟩ = row) :
    awake (serve row f) s = makeReady tag (Request.code ⟨tag, code :: fields⟩) (f (code :: fields) (s.taking rest)).2
      (f (code :: fields) (s.taking rest)).1 := by
  rw [awake_running hs, serve_taken hi hrow]
  rfl

/-- A request whose meaning leaves the link alone, answered in one frame. -/
theorem awake_serve_answered {s t : State} {row : Instr} {f : List Byte → State → State × Reply} {tag code : Byte}
    {fields : List Byte} {rest : List Request} {st : Status} {body : Body} (hs : s.inReset = false)
    (hi : s.link.intake = ⟨tag, code :: fields⟩ :: rest) (hrow : Request.row ⟨tag, code :: fields⟩ = row)
    (hf : f (code :: fields) (s.taking rest) = (t, ⟨st, body⟩)) (hl : t.link = (s.taking rest).link)
    (hb : ∀ c rs p, body = .read c rs p → rs.length ≤ Config.recordsPerFrame) :
    awake (serve row f) s =
      { t with link := s.link.answered tag rest [.reply tag (some code) ⟨st, body⟩ true] } := by
  rw [awake_serve hs hi hrow, hf]
  exact makeReady_answered s t tag fields rest code st body hl hb

/-- A request whose meaning changes nothing. -/
theorem awake_serve_unchanged {s : State} {row : Instr} {f : List Byte → State → State × Reply} {tag code : Byte}
    {fields : List Byte} {rest : List Request} {st : Status} {body : Body} (hs : s.inReset = false)
    (hi : s.link.intake = ⟨tag, code :: fields⟩ :: rest) (hrow : Request.row ⟨tag, code :: fields⟩ = row)
    (hf : f (code :: fields) (s.taking rest) = (s.taking rest, ⟨st, body⟩))
    (hb : ∀ c rs p, body = .read c rs p → rs.length ≤ Config.recordsPerFrame) :
    awake (serve row f) s = s.answered tag rest code st body :=
  awake_serve_answered (t := s.taking rest) hs hi hrow hf rfl hb

/-- An event that is the taking of a request, from the effects of its meaning (R153, R181). -/
theorem requestEffects_of_sideEffects {raised : List ClassNo} {s v : State} {tag code : Byte} {fields : List Byte}
    {rest : List Request} {st : Status} {body : Body} (h : SideEffects raised (s.taking rest) v)
    (hb : ∀ c rs p, body = .read c rs p → rs.length ≤ Config.recordsPerFrame) :
    RequestEffects raised s (makeReady tag (Request.code ⟨tag, code :: fields⟩) ⟨st, body⟩ v) tag rest code st body where
  inReset := h.inReset
  chatter := h.chatter
  pending := h.pending
  cursors := h.cursors
  link := by
    rw [makeReady_eq]
    simp only [h.link, Request.code, List.head?_cons, replyFrames_one tag (some code) ⟨st, body⟩ hb, Link.answered,
      setStage, List.append_assoc]
    rfl
  credit := h.credit
  classes := h.classes
  occurrences := h.occurrences

end Sys2Proof.Machine
end

section
/-! The store at reset (R27), GET_SPOOL (R26) and SET_SPOOL (R7 to R9). -/

namespace Sys2Proof.Machine

/-- Settles O3, from the spools of `State.atReset`. -/
theorem pinResetStore : Obligations.PinResetStore := by
  intro s pins spd1 spd0 c hc
  have reset : exec c s = .next (pinReset pins spd1 spd0 s) := by
    obtain rfl | rfl := hc <;> rfl
  refine ⟨_, reset, atReset_spool pins (speedOf spd1 spd0) 0, fun i hi => ?_⟩
  exact (atReset_spool pins (speedOf spd1 spd0) i).trans (if_neg hi)

/-- The ends of a spool are the sequences of its oldest and newest held record (R26). -/
theorem Spool.ends_map (sp : Spool) :
    sp.ends.map (·.1) = sp.held.head?.map (·.seq) ∧ sp.ends.map (·.2) = sp.held.getLast?.map (·.seq) := by
  unfold Spool.ends
  cases h : sp.held with
  | nil => exact ⟨rfl, rfl⟩
  | cons r rs => simp [List.getLast?_cons]

/-- Settles O8: the report's fields are the spool's. -/
theorem spoolReported : Obligations.SpoolReported := by
  intro s tag n rest hs hi
  have fields : decodeSpool [0x35, n] = below 4 n.toNat := rfl
  refine ⟨fun hn => ?_, fun i hn => ⟨s.spools[i].report, ?_, rfl, rfl, rfl, s.spools[i].ends_map.1,
    s.spools[i].ends_map.2, rfl, rfl, ?_, ?_, rfl, rfl, rfl, rfl⟩⟩
  · refine congrArg Host.Outcome.next (awake_serve_unchanged hs hi rfl ?_ nofun)
    have out : decodeSpool [0x35, n] = none := by rw [fields, below, dif_neg (by omega)]
    rw [getSpoolRequest, out, withFields_none]
  · refine congrArg Host.Outcome.next (awake_serve_unchanged hs hi rfl ?_ nofun)
    rw [getSpoolRequest, fields, below_eq_some.2 hn, withFields_some]
    rfl
  · show (s.spools[i].current.map fun c => (c, s.spools[i].segCount)).map (·.1) = s.spools[i].current
    cases s.spools[i].current <;> rfl
  · intro p hp
    obtain ⟨c, -, rfl⟩ := Option.map_eq_some_iff.1 hp
    rfl

/-! ### SET_SPOOL -/

/-- The capacities with one replaced: the new one and the others (R7). -/
theorem sum_replaced (f : SpoolNo → Nat) (i : SpoolNo) (c : Nat) :
    ((List.finRange 4).map fun j => if j = i then c else f j).sum
      = c + (((List.finRange 4).filter (· ≠ i)).map f).sum := by
  have spools : List.finRange 4 = [0, 1, 2, 3] := rfl
  fin_cases i <;> simp [spools] <;> omega

theorem policyOf_toCode (p : Policy) : policyOf p.toCode.toNat = some p := by
  cases p <;> rfl

theorem byte_spool_toNat (i : SpoolNo) : (byte i.val).toNat = i.val := by
  have := i.isLt
  simp only [byte, BitVec.toNat_ofNat]
  omega

/-- A SET_SPOOL payload gives back its fields (R8, R214). -/
theorem decodeSetSpool_payload (i : SpoolNo) {capacity threshold : Nat} (policy : Policy) (h64 : capacity % 64 = 0)
    (hc : capacity ≤ 8192) (ht : threshold ≤ capacity) :
    decodeSetSpool (Payload.setSpool i capacity policy threshold) = some (i, capacity, policy, threshold) := by
  have hlen : (leBytes 2 capacity).length = 2 := leBytes_length 2 capacity
  refine decodeSetSpool_eq_some.2 ⟨?_, ?_, ?_, ?_, ?_, ht⟩
  · rw [show byteAt (Payload.setSpool i capacity policy threshold) 1 = (byte i.val).toNat from rfl, byte_spool_toNat,
      below_val]
  · have := field_append [0x14, byte i.val] ([policy.toCode] ++ leBytes 2 threshold) 2 capacity (by omega)
    simpa [Payload.setSpool] using this
  · simp [capacityOk, h64, Config.recordSlots, hc]
  · exact policyOf_toCode policy
  · exact field_append ([0x14, byte i.val] ++ leBytes 2 capacity ++ [policy.toCode]) [] 2 threshold (by omega)

/-- The near-full comparison of a SET_SPOOL depends on the present state only by what it crosses (R9). -/
theorem Spool.nearFullAfterSet_eq (sp : Spool) : sp.nearFullAfterSet =
    if sp.threshold = 0 ∨ sp.held.length + sp.reservation.toNat < sp.threshold then .below else .above := by
  have occupancy : sp.occupancy = sp.held.length + sp.reservation.toNat := rfl
  unfold Spool.nearFullAfterSet
  rw [occupancy]
  cases sp.nearFull
  · by_cases h : sp.threshold = 0 ∨ sp.held.length + sp.reservation.toNat < sp.threshold
    · rw [if_pos h, if_neg (by omega)]
    · rw [if_neg h, if_pos (by omega)]
  · rfl

theorem Spool.configured_eq (sp : Spool) (capacity : Nat) (policy : Policy) (threshold : Nat) :
    sp.configured capacity policy threshold = { sp with
      capacity, policy, threshold, current := if (capacity != sp.capacity) = true then none else sp.current,
      burstSeg := if (capacity != sp.capacity) = true then false else sp.burstSeg,
      nearFull := if threshold = 0 ∨ sp.held.length + sp.reservation.toNat < threshold then .below else .above } := by
  unfold Spool.configured
  rw [Spool.nearFullAfterSet_eq]
  by_cases h : capacity = sp.capacity <;> simp [Spool.withSettings, h]

/-- What storing a SET_SPOOL changes: its spool, and the NEAR_FULL class on a crossing (R8, R9). -/
theorem storeSpool_frame (i : SpoolNo) (capacity : Nat) (policy : Policy) (threshold : Nat) (s : State) :
    storeSpool i capacity policy threshold s = { s with
      spools := s.spools.set i (s.spools[i].configured capacity policy threshold),
      notes :=
        if s.spools[i].nearFull = .below ∧ (s.spools[i].configured capacity policy threshold).nearFull = .above then
          s.notes.taking nearFullClass (.nearFull (BitVec.twoPow 8 i.val))
        else s.notes } := by
  rw [storeSpool_eq]
  split <;> rfl

/-- Settles O17: the fields are read back, and the three outcomes are the branches of the request's meaning. -/
theorem setSpoolCarriedOut : Obligations.SetSpoolCarriedOut := by
  intro s tag rest i capacity policy threshold hs hi h64 ht hsum
  have fields : setSpoolFields (Payload.setSpool i capacity policy threshold) (s.taking rest)
      = some (i, capacity, policy, threshold) := by
    rw [setSpoolFields, decodeSetSpool_payload i policy h64 (by omega) ht]
    refine Option.filter_eq_some_iff.2 ⟨rfl, (capacitySumOk_iff _ _ _).2 ?_⟩
    rw [sum_replaced fun j => (s.taking rest).spools[j].capacity]
    exact hsum
  have carried : setSpoolRequest (Payload.setSpool i capacity policy threshold) (s.taking rest) =
      if s.mode = .setup then
        if capacity ≠ s.spools[i].capacity ∧ (s.spools[i].held ≠ [] ∨ s.spools[i].erasing.isSome) then
          refuse .spoolNotEmpty (s.taking rest)
        else (storeSpool i capacity policy threshold (s.taking rest), ⟨.ok, .empty⟩)
      else if capacity ≠ s.spools[i].capacity ∨ policy ≠ s.spools[i].policy then wrongMode (s.taking rest)
      else (storeSpool i capacity policy threshold (s.taking rest), ⟨.ok, .empty⟩) := by
    rw [setSpoolRequest, fields]
    rfl
  have event : ∀ {t st body}, setSpoolRequest (Payload.setSpool i capacity policy threshold) (s.taking rest)
      = (t, ⟨st, body⟩) → t.link = (s.taking rest).link → (∀ c rs p, body ≠ .read c rs p) →
      exec .setSpool s = .next { t with
        link := s.link.answered tag rest [.reply tag (some 0x14) ⟨st, body⟩ true] } := fun hf hl hb =>
    congrArg Host.Outcome.next (awake_serve_answered hs hi rfl hf hl fun c rs p h => absurd h (hb c rs p))
  dsimp only
  split
  · next h =>
    obtain ⟨hm, hch, hne⟩ := h
    refine event (t := s.taking rest) (body := .empty) (carried.trans ?_) rfl nofun
    rw [if_pos hm, if_pos ⟨by simpa using hch, by simpa [Option.isSome_iff_ne_none] using hne⟩]
    rfl
  · next hkept =>
    split
    · next h =>
      obtain ⟨hm, hch⟩ := h
      refine event (t := s.taking rest) (body := .mode s.mode) (carried.trans ?_) rfl nofun
      rw [if_neg hm, if_pos (by simpa using hch)]
      rfl
    · next hsame =>
      refine (event (t := storeSpool i capacity policy threshold (s.taking rest)) (st := .ok) (body := .empty)
        (carried.trans ?_) (by rw [storeSpool_frame]) nofun).trans ?_
      · by_cases hm : s.mode = .setup
        · rw [if_pos hm, if_neg fun h => hkept ⟨hm, by simpa using h.1, by simpa [Option.isSome_iff_ne_none] using h.2⟩]
        · rw [if_neg hm, if_neg fun h => hsame ⟨hm, by simpa using h⟩]
      · rw [storeSpool_frame, Spool.configured_eq]
        rfl

end Sys2Proof.Machine
end

section
/-! Every law of the recorder at reset. -/

namespace Sys2Proof.Machine

/-- Settles O53: at reset each block has the values of its table. -/
theorem lawsHoldAtReset : Obligations.LawsHoldAtReset := by
  intro pins speed
  have classes : ∀ c : ClassNo, (State.atReset pins speed).notes.classes[c] = NoteClass.atReset := fun c => by
    simp [State.atReset]
  have lines : ∀ l : LineNo, (State.atReset pins speed).lines[l] = Line.atReset (pins.getLsbD l.val) := fun l => by
    simp [State.atReset]
  have groups : ∀ g : GroupNo, (State.atReset pins speed).groups[g] = Group.atReset := fun g => by
    simp [State.atReset]
  have cursors : ∀ c : CursorNo, (State.atReset pins speed).cursors[c] = { state := .closed, inFlight := none } :=
    fun c => by simp [State.atReset]
  have counters : ∀ k : CounterNo, (State.atReset pins speed).link.counters[k] = 0 := fun k => by
    simp [State.atReset, Link.atReset]
  have numbered := (numbered_iff (State.atReset pins speed)).1 fun i => by
    rw [atReset_spool]
    split <;> exact .of_empty rfl rfl
  refine ⟨?_, ?_, ?_, ?_, ?_, numbered.2, numbered.1, capacityLaw_atReset (fun _ => rfl) rfl, ?_⟩
  · exact {
      credit := Nat.zero_le _
      disabled := fun c _ => by rw [classes]; exact ⟨rfl, rfl, rfl⟩
      idle := fun c _ => by rw [classes]; exact ⟨rfl, rfl⟩
      number := fun c => by rw [classes]; exact Nat.zero_le _
      settings := fun c => by rw [classes]; exact ⟨Nat.zero_le _, .inl rfl⟩ }
  · exact {
      places := Nat.zero_le _
      tags := .nil
      queued := rfl
      replying := .nil
      slots := rfl
      slotBound := Nat.zero_le _
      erases := fun _ => Nat.zero_le _
      erasing := fun _ _ h => nomatch h
      counters := fun k => by rw [counters]; exact Nat.zero_le _
      gap := nofun }
  · exact {
      lines := fun l => by rw [lines]; exact iff_of_true rfl (.inl rfl)
      groups := fun g => by rw [groups]; exact iff_of_true rfl (.inl rfl)
      burst := fun h => absurd rfl h
      ringSize := Nat.zero_le _
      ring := fun h => absurd rfl h
      nextId := ⟨le_rfl, (by decide : 1 ≤ max16)⟩ }
  · exact {
      level := fun l _ => by rw [lines]; simp [Line.atReset, Line.raw]
      settling := fun l _ _ h => by rw [lines] at h; exact nomatch h
      lockout := fun l _ h => by rw [lines] at h; exact nomatch h
      idle := fun l _ => by rw [lines]; exact ⟨rfl, rfl⟩
      suppressed := fun l _ h => by rw [lines] at h; exact nomatch h }
  · exact {
      members := fun h => absurd rfl h
      agrees := nofun }
  · intro c i p h
    rw [cursors] at h
    exact nomatch h

end Sys2Proof.Machine
end

section
/-! An ordinary append in every state of a spool (R12 to R16). -/

namespace Sys2Proof.Machine

namespace Spool

variable {sp : Spool} {d : Draft} {now : Nat}

theorem numbersAllow_iff (sp : Spool) (k : Nat) : sp.numbersAllow k false = true ↔
    sp.nextSeq + k + sp.reservation.toNat ≤ max48 ∧ (sp.current = none → sp.nextSeg < max32) := by
  cases h : sp.current <;> simp [numbersAllow, h]

theorem removable_eq_takeWhile (sp : Spool) : sp.removable =
    if sp.policy = .wrap then (sp.held.takeWhile fun r => decide (r.seg ∉ sp.pins)).length else 0 := by
  unfold removable removableRun
  cases sp.policy
  · simp only [if_true]
    congr 2
    funext r
    simp
  · rfl

theorem room_mono {k l : Nat} (hk : k ≤ l) (h : sp.room l = true) : sp.room k = true := by
  rw [room_iff, numbersAllow_iff] at h ⊢
  exact ⟨⟨by omega, h.1.2⟩, by omega⟩

/-! ### The outcomes of an append, each from its conditions -/

theorem append_lost (he : sp.enabled = true) (h : sp.erasing ≠ none ∨ sp.room 1 = false) :
    sp.append now d = sp.appendLost d := by
  unfold append
  rw [if_neg (by simp [he])]
  by_cases hx : sp.erasing = none
  · have h1 := h.resolve_left fun k => k hx
    have h2 : sp.room 2 = false := eq_false_of_ne_true fun k => by
      rw [room_mono (by omega) k] at h1
      exact nomatch h1
    simp [hx, h1, h2]
  · rw [if_pos (Option.isSome_iff_ne_none.2 hx)]

theorem append_place (he : sp.enabled = true) (hx : sp.erasing = none) (ht : sp.tally = none) (h1 : sp.room 1 = true) :
    sp.append now d =
      { spool := (sp.makeRoom 1).place d, removed := sp.overwritten 1, placed := some sp.nextSeq, lost := false } := by
  simp [append, he, hx, ht, h1]

theorem append_settle_place {ty : Tally} (he : sp.enabled = true) (hx : sp.erasing = none) (ht : sp.tally = some ty)
    (h2 : sp.room 2 = true) : sp.append now d =
      { spool := ((sp.makeRoom 2).settle now).place d, removed := sp.overwritten 2,
        placed := some (sp.nextSeq + 1), lost := false } := by
  have hn : ((sp.makeRoom 2).settle now).nextSeq = sp.nextSeq + 1 := by
    have : (sp.makeRoom 2).tally = some ty := ht
    rw [settle, this]
    rfl
  simp [append, he, hx, ht, h2, hn]

theorem append_settle_lose {ty : Tally} (he : sp.enabled = true) (hx : sp.erasing = none) (ht : sp.tally = some ty)
    (h2 : sp.room 2 = false) (h1 : sp.room 1 = true) : sp.append now d =
      { spool := ((sp.makeRoom 1).settle now).lose d.timestamp, removed := sp.overwritten 1, placed := none,
        lost := true } := by
  simp [append, he, hx, ht, h1, h2]

/-! ### What each outcome leaves, written out -/

/-- `sp` without its `n` oldest records and with the records `rs` in its segment, which then counts `count`. -/
def joined (sp : Spool) (n : Nat) (rs : List Record) (count : Nat) : Spool := { sp with
  held := sp.held.drop n ++ rs, nextSeq := sp.nextSeq + rs.length, current := some (sp.current.getD sp.nextSeg),
  nextSeg := if sp.current = none then sp.nextSeg + 1 else sp.nextSeg, segCount := count, tally := none }

/-- The record an append places in the present segment, or in the one it opens (R13). -/
def recordAt (sp : Spool) (seq : Nat) (first : Bool) (draft : Draft) : Record :=
  { seq, seg := sp.current.getD sp.nextSeg, first, inBurst := sp.burstSeg, draft }

/-- The records of the present segment, none where it is not open. -/
def count (sp : Spool) : Nat := if sp.current = none then 0 else sp.segCount

theorem place_joined {k : Nat} (hd : d.body.markInfo = none) (ht : sp.tally = none) (hr : sp.room k = true) :
    (sp.makeRoom k).place d = sp.joined (k - sp.free) [sp.recordAt sp.nextSeq sp.current.isNone d]
      (min (sp.count + 1) 4294967295) := by
  rw [makeRoom_of_room _ hr]
  refine (place_record _ hd).trans ?_
  cases hc : sp.current <;> simp [joined, recordAt, count, hc, ht, satAdd, max32]

theorem settle_joined {k : Nat} {ty : Tally} (ht : sp.tally = some ty) (hr : sp.room k = true) :
    (sp.makeRoom k).settle now = sp.joined (k - sp.free)
      [sp.recordAt sp.nextSeq sp.current.isNone (lossDraft now ty)] (min (sp.count + 1) 4294967295) := by
  rw [makeRoom_of_room _ hr, settle]
  dsimp only
  rw [ht]
  dsimp only
  rw [place_record _ rfl]
  cases hc : sp.current <;> simp [joined, recordAt, count, hc, satAdd, max32]

theorem settle_place_joined {k : Nat} {ty : Tally} (hd : d.body.markInfo = none) (ht : sp.tally = some ty)
    (hr : sp.room k = true) : ((sp.makeRoom k).settle now).place d = sp.joined (k - sp.free)
      [sp.recordAt sp.nextSeq sp.current.isNone (lossDraft now ty), sp.recordAt (sp.nextSeq + 1) false d]
      (min (sp.count + 2) 4294967295) := by
  rw [settle_joined ht hr]
  refine (place_record _ hd).trans ?_
  have hmin : min (min (sp.count + 1) 4294967295 + 1) 4294967295 = min (sp.count + 2) 4294967295 := by omega
  simp [joined, recordAt, satAdd, max32, hmin]

end Spool

end Sys2Proof.Machine
end

section
namespace Sys2Proof.Machine

namespace Spool

variable {sp : Spool} {d : Draft} {now : Nat}

/-- With room for `k` the sequences handed to the cursor unit are those of the records that go, none of them in a pinned
segment (R14, R35). -/
theorem overwritten_of_room {k : Nat} (h : sp.room k = true) :
    sp.overwritten k = (sp.held.take (k - sp.free)).map (·.seq) ∧ ∀ r ∈ sp.held.take (k - sp.free), r.seg ∉ sp.pins := by
  have hk := ((sp.room_iff k false).1 h).2
  exact ⟨by rw [overwritten, sp.overwriteCount_of_room h], fun r hr => sp.seg_not_pinned (by omega) hr⟩

theorem enabled_iff : sp.enabled = true ↔ sp.capacity ≠ 0 := by
  simp [enabled]

/-- When an ordinary append loses its record to the tally (R15, R16). -/
theorem append_lost_iff : (sp.append now d).lost = true ↔
    sp.capacity ≠ 0 ∧ (sp.erasing ≠ none ∨ sp.room 1 = false ∨ (sp.tally ≠ none ∧ sp.room 2 = false)) := by
  by_cases he : sp.enabled = true
  · have hc := enabled_iff.1 he
    by_cases hl : sp.erasing ≠ none ∨ sp.room 1 = false
    · rw [append_lost he hl]
      exact iff_of_true rfl ⟨hc, hl.imp_right .inl⟩
    · obtain ⟨hx, h1⟩ := not_or.1 hl
      have hx := not_ne_iff.1 hx
      have h1 := eq_true_of_ne_false h1
      cases ht : sp.tally with
      | none => rw [append_place he hx ht h1]; simp [hx, h1]
      | some ty =>
        cases h2 : sp.room 2 with
        | true => rw [append_settle_place he hx ht h2]; simp [hx, h1]
        | false => rw [append_settle_lose he hx ht h2 h1]; simp [hc]
  · have hc : sp.capacity = 0 := by simpa [enabled] using he
    rw [append, if_pos (eq_false_of_ne_true he)]
    simp [hc]

end Spool

/-- What a removal does to a cursor: it is lapped exactly where it stands on a removed record (R146). -/
theorem Cursor.lap_eq (i : SpoolNo) (removed : List Nat) (c : Cursor) : c.lap i removed =
    if (c.place?.any fun q => decide (q.1 = i ∧ q.2 ∈ removed)) = true then { state := .lapped i, inFlight := none }
    else c := by
  unfold Cursor.lap Cursor.place?
  cases c.state <;> simp

/-- What an ordinary append leaves of the state (R12, R15, R146). -/
theorem append_frame (i : SpoolNo) (d : Draft) (s : State) : (append i d s).1 = { s with
    spools := s.spools.set i (s.spools[i].appended s.time d),
    cursors := mapV (Cursor.lap i (s.spools[i].append s.time d).removed) s.cursors,
    notes := if (s.spools[i].append s.time d).lost then s.notes.taking lossClass (.loss (BitVec.twoPow 8 i.val) 1)
      else s.notes } := by
  unfold append
  dsimp only
  split <;> rfl

/-- Settles O20: the outcomes of an append, one by one, then what the state keeps. -/
theorem ordinaryAppend : Obligations.OrdinaryAppend := by
  constructor
  · intro sp now d hd
    refine ⟨fun k => ?_, fun hc => ?_, fun hc => ⟨fun hl => ?_, fun hx => ⟨fun n hn ht h1 => ?_, fun y ht =>
      ⟨fun n hn h2 => ?_, fun n hn h2 h1 => ?_⟩⟩⟩⟩
    · rw [sp.room_iff, sp.numbersAllow_iff, sp.removable_eq_takeWhile, and_assoc]
      rfl
    · have disabled : sp.append now d = { spool := sp, removed := [], placed := none, lost := false } := by
        simp [Spool.append, Spool.enabled, hc]
      rw [Spool.appended, disabled]
      exact ⟨rfl, rfl, fun _ h => absurd h List.not_mem_nil⟩
    all_goals have he := Spool.enabled_iff.2 hc
    · rw [Spool.appended, Spool.append_lost he hl]
      exact ⟨rfl, rfl, fun _ h => absurd h List.not_mem_nil⟩
    all_goals subst hn
    · rw [Spool.appended, Spool.append_place he hx ht h1]
      exact ⟨Spool.overwritten_of_room h1, Spool.place_joined hd ht h1⟩
    · rw [Spool.appended, Spool.append_settle_place he hx ht h2]
      exact ⟨Spool.overwritten_of_room h2, Spool.settle_place_joined hd ht h2⟩
    · rw [Spool.appended, Spool.append_settle_lose he hx ht h2 h1]
      exact ⟨Spool.overwritten_of_room h1, congrArg (Spool.lose · d.timestamp) (Spool.settle_joined ht h1)⟩
  · intro s i d _
    dsimp only
    rw [append_frame]
    refine ⟨rfl, fun c => ?_, ?_, rfl⟩
    · show (mapV _ s.cursors)[c] = _
      rw [mapV_get, Cursor.lap_eq]
    · exact if_congr Spool.append_lost_iff rfl rfl

end Sys2Proof.Machine
end

section
/-! The end of an event: the near-full comparison and the STREAM_END frames (R24, R153). -/

namespace Sys2Proof.Machine

/-- The end of an event touches the spools, the notification unit and the reply queue alone (R24, R153). -/
theorem closeEvent_frame {s0 s : State} {frames : List Frame} (h : lappedEnds s0 s = frames) : closeEvent s0 s = { s with
    spools := (closeEvent s0 s).spools, notes := (closeEvent s0 s).notes,
    link := { s.link with replyQueue := s.link.replyQueue ++ frames } } := by
  subst h
  have cursors := closeEvent_cursors s0 s
  obtain ⟨mode, time, lines, groups, burst⟩ := closeEvent_storeOnly s0 s
  have side : MidEffects [nearFullClass] (endLappedStreams s0 s) (closeEvent s0 s) := evaluateNearFull_effects s0 _
  rw [endLappedStreams_eq] at side
  obtain ⟨inReset, ⟨wc, rc⟩, pending, -, link, -, -, -⟩ := side
  generalize closeEvent s0 s = t at *
  obtain ⟨⟩ := t
  dsimp only at *
  subst cursors mode time lines groups burst inReset wc rc pending link
  rfl

/-- The near-full comparison of one spool at the end of the event from `s0` (R24). -/
def compareNearFull (s0 : State) (i : SpoolNo) (s : State) : State :=
  if s0.spools[i].occupancy = s.spools[i].occupancy then s else setNearFull i s.spools[i].nearFullAfterEvent s

/-- Where no other spool's occupancy changed, the end of an event compares the one spool (R24). -/
theorem evaluateNearFull_one (s0 s : State) (i : SpoolNo)
    (h : ∀ j : SpoolNo, j ≠ i → s0.spools[j].occupancy = s.spools[j].occupancy) :
    evaluateNearFull s0 s = compareNearFull s0 i s := by
  have key : ∀ (is : List SpoolNo) (u : State), is.Nodup →
      (∀ j : SpoolNo, j ≠ i → s0.spools[j].occupancy = u.spools[j].occupancy) →
      is.foldl (fun acc i => compareNearFull s0 i acc) u = if i ∈ is then compareNearFull s0 i u else u := by
    intro is
    induction is with
    | nil => intro u _ _; rfl
    | cons k is ih =>
      intro u hn hu
      obtain ⟨hk, hn⟩ := List.nodup_cons.1 hn
      rw [List.foldl_cons]
      rcases eq_or_ne k i with rfl | hki
      · rw [ih _ hn, if_neg hk, if_pos (List.mem_cons_self ..)]
        intro j hj
        unfold compareNearFull
        split
        · exact hu j hj
        · rw [setNearFull_spool, if_neg hj.symm]
          exact hu j hj
      · have still : compareNearFull s0 k u = u := if_pos (hu k hki)
        rw [still, ih u hn hu]
        simp [hki.symm]
  exact (key _ s (List.nodup_finRange 4) h).trans (if_pos (List.mem_finRange i))

theorem setNearFull_notes (i : SpoolNo) (nf : NearFull) (s : State) : (setNearFull i nf s).notes =
    if s.spools[i].nearFull = .below ∧ nf = .above then
      s.notes.taking nearFullClass (.nearFull (BitVec.twoPow 8 i.val))
    else s.notes := by
  unfold setNearFull
  dsimp only
  split <;> rfl

/-- The near-full comparison crosses to ABOVE, back to BELOW, or leaves the state (R24). -/
theorem Spool.nearFullAfterEvent_eq (sp : Spool) : sp.nearFullAfterEvent =
    if sp.nearFull = .below ∧ sp.threshold ≠ 0 ∧ sp.threshold ≤ sp.occupancy then .above
    else if sp.nearFull = .above ∧ sp.occupancy < sp.threshold then .below
    else sp.nearFull := by
  unfold Spool.nearFullAfterEvent
  cases sp.nearFull <;> simp

theorem Spool.crosses_iff (sp : Spool) : sp.nearFull = .below ∧ sp.nearFullAfterEvent = .above ↔
    sp.nearFull = .below ∧ sp.threshold ≠ 0 ∧ sp.threshold ≤ sp.occupancy := by
  unfold Spool.nearFullAfterEvent
  cases sp.nearFull <;> simp

/-- The frames of an event's STREAM_END, by how the start of an erase shows (R42, R153). -/
theorem lappedEnds_reasons (s0 s : State) : lappedEnds s0 s = (List.finRange 4).filterMap fun c =>
    match s0.cursors[c].state, s.cursors[c].state with
    | .streaming j _ _ _, .lapped _ => some (.streamEnd c
        (if s0.spools[j].erasing = none ∧ s.spools[j].erasing ≠ none then .erased else .lapped))
    | _, _ => none := by
  unfold lappedEnds
  congr 1
  funext c
  unfold streamLapped
  cases s0.cursors[c].state with
  | streaming j p n f =>
    cases s.cursors[c].state with
    | lapped k =>
      dsimp only [Option.map_some]
      cases s0.spools[j].erasing <;> cases s.spools[j].erasing <;> rfl
    | closed => rfl
    | positioned => rfl
    | streaming => rfl
  | closed => rfl
  | positioned => rfl
  | lapped => rfl

/-- The notification unit at the end of an event that changed the occupancy of no spool but `i` (R24). -/
theorem closeEvent_notes (s0 s : State) (i : SpoolNo)
    (h : ∀ j : SpoolNo, j ≠ i → s0.spools[j].occupancy = s.spools[j].occupancy) :
    (closeEvent s0 s).notes =
      if s0.spools[i].occupancy ≠ s.spools[i].occupancy ∧ s.spools[i].nearFull = .below ∧
          s.spools[i].threshold ≠ 0 ∧ s.spools[i].threshold ≤ s.spools[i].occupancy then
        s.notes.taking nearFullClass (.nearFull (BitVec.twoPow 8 i.val))
      else s.notes := by
  have one : closeEvent s0 s = compareNearFull s0 i (endLappedStreams s0 s) :=
    evaluateNearFull_one s0 _ i (by rw [endLappedStreams_eq]; exact h)
  rw [one, endLappedStreams_eq]
  unfold compareNearFull
  dsimp only
  split
  · next e => rw [if_neg fun k => k.1 e]
  · next e =>
    rw [setNearFull_notes]
    exact if_congr ((Spool.crosses_iff _).trans (and_iff_right e).symm) rfl rfl

/-- Settles O21: the comparison of each spool, the class it raises, and the frame of an event's end. -/
theorem nearFullCompared : Obligations.NearFullCompared := by
  intro s0 s i
  have occupancy : ∀ sp : Spool, sp.held.length + sp.reservation.toNat = sp.occupancy := fun _ => rfl
  simp only [occupancy]
  have spool := closeEvent_spool s0 s i
  rw [Spool.atEventEnd, Spool.nearFullAfterEvent_eq] at spool
  refine ⟨fun ⟨hne, hcross⟩ => ?_, fun ⟨hne, habove, hlt⟩ => ?_, fun hup hdown => ?_,
    fun others => ⟨fun h => ?_, fun h => ?_⟩, ?_⟩
  · exact spool.trans (by rw [if_neg hne, if_pos hcross])
  · have notBelow : s.spools[i].nearFull ≠ .below := by rw [habove]; exact nofun
    exact spool.trans (by rw [if_neg hne, if_neg fun k => notBelow k.1, if_pos ⟨habove, hlt⟩])
  · refine spool.trans ?_
    split
    · rfl
    · next hne => rw [if_neg fun k => hup ⟨hne, k⟩, if_neg fun k => hdown ⟨hne, k⟩]
  · exact (closeEvent_notes s0 s i fun j hj => (others j hj).symm).trans (if_pos h)
  · exact (closeEvent_notes s0 s i fun j hj => (others j hj).symm).trans (if_neg h)
  · exact closeEvent_frame (lappedEnds_reasons s0 s)

end Sys2Proof.Machine
end

section
/-! CUT (R21). -/

namespace Sys2Proof.Machine

/-- An ordinary append that loses nothing raises no class. -/
theorem append_effects_kept {i : SpoolNo} {d : Draft} {s : State} (h : (s.spools[i].append s.time d).lost = false) :
    MidEffects [] s (append i d s).1 := by
  unfold append
  dsimp only
  rw [h]
  exact (setSpool_effects i _ s).trans (lapCursors_effects i _ _)

theorem Spool.atEventEnd_self (sp : Spool) : Spool.atEventEnd sp sp = sp := if_pos rfl

/-- An event that appends one record to spool `i` and loses none (R12, R24). -/
theorem closeEvent_append_effects {i : SpoolNo} {d : Draft} {s : State}
    (h : (s.spools[i].append s.time d).lost = false) :
    SideEffects [nearFullClass] s (closeEvent s (append i d s).1) := by
  refine closeEvent_effects (append_effects_kept h) fun j => ?_
  rw [append_spool]
  split
  · next e => subst e; exact (Spool.append_keeps _ _ d).2.2.2.2.1
  · rfl

theorem closeEvent_append_spool (i j : SpoolNo) (d : Draft) (s : State) :
    (closeEvent s (append i d s).1).spools[j] =
      if i = j then Spool.atEventEnd s.spools[i] (s.spools[i].appended s.time d) else s.spools[j] := by
  rw [closeEvent_spool, append_spool]
  split
  · next e => subst e; rfl
  · exact Spool.atEventEnd_self _

theorem setLink_storeOnly (l : Link) (s : State) : StoreOnly s (s.setLink l) := ⟨rfl, rfl, rfl, rfl, rfl⟩

theorem Spool.disabled_iff {sp : Spool} : sp.enabled = false ↔ sp.capacity = 0 := by
  simp [Spool.enabled]

/-! ### CUT -/

/-- The MARK that a CUT asks for (R21). -/
def cutMark (now : Nat) : Draft := { body := .mark .cut 0 none, timestamp := now }

section Outcomes

variable {i : SpoolNo} {s : State} (hc : s.spools[i].capacity ≠ 0)
include hc

/-- A CUT of an enabled spool (R21). -/
theorem cutSpool_enabled : cutSpool i s =
    if s.spools[i].erasing.isSome then refuse .spoolBusy s
    else if s.spools[i].burstSeg then refuse .burstActive s
    else
      match s.spools[i].current with
      | none => (s, ⟨.ok, .cut none⟩)
      | some seg =>
          if s.spools[i].room (1 + s.spools[i].tally.isSome.toNat) = false then refuse .spoolFull s
          else
            let r := recordingWith (append i (cutMark s.time)) s
            (r.1, ⟨.ok, .cut (r.2.map fun q => (q, seg))⟩) :=
  if_neg (by rw [Spool.enabled_iff.2 hc]; exact nofun)

theorem cutSpool_busy (hx : s.spools[i].erasing ≠ none) : cutSpool i s = (s, ⟨.spoolBusy, .empty⟩) :=
  (cutSpool_enabled hc).trans (if_pos (Option.isSome_iff_ne_none.2 hx))

variable (hx : s.spools[i].erasing = none)
include hx

theorem cutSpool_burst (hb : s.spools[i].burstSeg = true) : cutSpool i s = (s, ⟨.burstActive, .empty⟩) := by
  rw [cutSpool_enabled hc, hx, hb]
  rfl

variable (hb : s.spools[i].burstSeg = false)
include hb

theorem cutSpool_nothing (hcur : s.spools[i].current = none) : cutSpool i s = (s, ⟨.ok, .cut none⟩) := by
  rw [cutSpool_enabled hc, hx, hb, hcur]
  rfl

variable {seg : Nat} (hcur : s.spools[i].current = some seg)
include hcur

theorem cutSpool_full (hr : s.spools[i].room (1 + s.spools[i].tally.isSome.toNat) = false) :
    cutSpool i s = (s, ⟨.spoolFull, .empty⟩) := by
  rw [cutSpool_enabled hc, hx, hb, hcur, hr]
  rfl

theorem cutSpool_recorded (hr : s.spools[i].room (1 + s.spools[i].tally.isSome.toNat) = true) :
    cutSpool i s = (closeEvent s (append i (cutMark s.time) s).1,
      ⟨.ok, .cut ((s.spools[i].append s.time (cutMark s.time)).placed.map fun q => (q, seg))⟩) := by
  rw [cutSpool_enabled hc, hx, hb, hcur, hr]
  rfl

end Outcomes

/-- The MARK of a CUT closes the segment of a spool without a tally (R21). -/
theorem Spool.cut_place {sp : Spool} {now seg : Nat} (hcur : sp.current = some seg) (hb : sp.burstSeg = false)
    (hr : sp.room 1 = true) : (sp.makeRoom 1).place (cutMark now) = { sp with
      held := sp.held.drop (1 - sp.free) ++
        [{ seq := sp.nextSeq, seg, first := false, inBurst := false,
           draft := { body := .mark .cut sp.segCount none, timestamp := now } }],
      nextSeq := sp.nextSeq + 1, current := none } := by
  rw [makeRoom_of_room _ hr]
  refine Eq.trans (place_mark _ _ _ _ _ (seg := seg) ?_) ?_
  · exact hcur
  · simp only [hb]

/-- The MARK of a CUT follows the LOSS record of a tally (R21). -/
theorem Spool.cut_settle_place {sp : Spool} {now seg : Nat} {ty : Tally} (hcur : sp.current = some seg)
    (hb : sp.burstSeg = false) (ht : sp.tally = some ty) (hr : sp.room 2 = true) :
    ((sp.makeRoom 2).settle now).place (cutMark now) = { sp with
      held := sp.held.drop (2 - sp.free) ++
        [{ seq := sp.nextSeq, seg, first := false, inBurst := false, draft := lossDraft now ty },
         { seq := sp.nextSeq + 1, seg, first := false, inBurst := false,
           draft := { body := .mark .cut (min (sp.segCount + 1) 4294967295) none, timestamp := now } }],
      nextSeq := sp.nextSeq + 2, current := none, segCount := min (sp.segCount + 1) 4294967295, tally := none } := by
  rw [settle_joined ht hr]
  refine Eq.trans (place_mark _ _ _ _ _ (seg := seg) ?_) ?_
  · simp [joined, hcur]
  · simp [joined, recordAt, count, hcur, hb]

/-- A CUT that places its MARK as record `q`, without a loss, and leaves the spool as `sp'` before the near-full
comparison (R21, R24). -/
theorem cut_placed {s : State} {tag : Byte} {rest : List Request} {i : SpoolNo} {seg q : Nat} {sp' : Spool}
    {removed : List Nat}
    (hs : s.inReset = false) (hi : s.link.intake = ⟨tag, [0x30, byte i.val]⟩ :: rest)
    (hc : s.spools[i].capacity ≠ 0) (hx : s.spools[i].erasing = none) (hb : s.spools[i].burstSeg = false)
    (hcur : s.spools[i].current = some seg)
    (hr : s.spools[i].room (1 + s.spools[i].tally.isSome.toNat) = true)
    (happ : s.spools[i].append s.time (cutMark s.time) = ⟨sp', removed, some q, false⟩) :
    ∃ t, exec .cut s = .next t ∧ StoreOnly s t ∧ t.spools[i] = Spool.atEventEnd s.spools[i] sp' ∧
      (∀ j : SpoolNo, j ≠ i → t.spools[j] = s.spools[j]) ∧
      RequestEffects [nearFullClass] s t tag rest 0x30 .ok (.cut (some (q, seg))) := by
  let u := s.taking rest
  have fields : decodeSpool [0x30, byte i.val] = some i := below_eq_some.2 (byte_spool_toNat i)
  have carried : cutRequest [0x30, byte i.val] u =
      (closeEvent u (append i (cutMark u.time) u).1, ⟨.ok, .cut (some (q, seg))⟩) := by
    rw [cutRequest, fields, withFields_some, cutSpool_recorded (s := u) hc hx hb hcur hr]
    exact congrArg (fun a : Appended => (_, (⟨.ok, .cut (a.placed.map fun q => (q, seg))⟩ : Reply))) happ
  have taken := awake_serve (f := cutRequest) hs hi rfl
  rw [carried] at taken
  refine ⟨_, congrArg Host.Outcome.next taken, ?_, ?_, fun j hj => ?_,
    requestEffects_of_sideEffects (closeEvent_append_effects (congrArg Appended.lost happ)) fun _ _ _ h => nomatch h⟩
  · exact ((setLink_storeOnly _ s).trans ((append_storeOnly i (cutMark u.time) u).trans
      (closeEvent_storeOnly u _))).trans (setLink_storeOnly _ _)
  · refine ((closeEvent_append_spool i i _ u).trans (if_pos rfl)).trans ?_
    exact congrArg (Spool.atEventEnd s.spools[i] ·.spool) happ
  · exact (closeEvent_append_spool i j _ u).trans (if_neg hj.symm)

/-- Settles O22: the refusals are the checks of the request in their order, and the MARK is placed by an ordinary append. -/
theorem cutCarriedOut : Obligations.CutCarriedOut := by
  intro s tag rest i hs hi
  have fields : decodeSpool [0x30, byte i.val] = some i := below_eq_some.2 (byte_spool_toNat i)
  have answered : ∀ {st body}, cutSpool i (s.taking rest) = (s.taking rest, ⟨st, body⟩) →
      (∀ c rs p, body ≠ .read c rs p) → exec .cut s = .next (s.answered tag rest 0x30 st body) := fun hf hb =>
    congrArg Host.Outcome.next (awake_serve_unchanged (f := cutRequest) hs hi rfl
      (by rw [cutRequest, fields, withFields_some, hf]) fun c rs p h => absurd h (hb c rs p))
  refine ⟨fun hc => ?_, fun hc => ⟨fun hx => ?_, fun hx => ⟨fun hb => ?_, fun hb => ⟨fun hcur => ?_,
    fun hcur hr => ?_, fun seg hcur ht hr => ?_, fun seg y hcur ht hr => ?_⟩⟩⟩⟩
  · exact answered (body := .empty) (if_pos (Spool.disabled_iff.2 hc)) fun _ _ _ h => nomatch h
  · exact answered (cutSpool_busy hc hx) fun _ _ _ h => nomatch h
  · exact answered (cutSpool_burst hc hx hb) fun _ _ _ h => nomatch h
  · exact answered (cutSpool_nothing hc hx hb hcur) fun _ _ _ h => nomatch h
  · obtain ⟨seg, hcur⟩ := Option.ne_none_iff_exists'.1 hcur
    refine answered (cutSpool_full hc hx hb hcur ?_) fun _ _ _ h => nomatch h
    show s.spools[i].room (1 + s.spools[i].tally.isSome.toNat) = false
    cases ht : s.spools[i].tally <;> rw [ht] at hr <;> exact hr
  · obtain ⟨t, next, only, spool, others, effects⟩ := cut_placed hs hi hc hx hb hcur (by rw [ht]; exact hr)
      (Spool.append_place (Spool.enabled_iff.2 hc) hx ht hr)
    refine ⟨t, _, next, only, rfl, ?_, others, effects⟩
    rw [spool, Spool.cut_place hcur hb hr]
    congr 4
    unfold Spool.free Spool.occupancy
    split <;> omega
  · obtain ⟨t, next, only, spool, others, effects⟩ := cut_placed hs hi hc hx hb hcur (by rw [ht]; exact hr)
      (Spool.append_settle_place (Spool.enabled_iff.2 hc) hx ht hr)
    refine ⟨t, _, next, only, rfl, ?_, others, effects⟩
    rw [spool, Spool.cut_settle_place hcur hb ht hr]
    rfl

end Sys2Proof.Machine
end

section
/-! A qualified change while ARMED up to the evaluation of groups (R65): how it is accepted, its own records, the ring. -/

namespace Sys2Proof.Machine

/-- The lines, the groups and the burst controller lie outside what `MidEffects` speaks of. -/
theorem blocks_effects (raised : List ClassNo) (s : State) (lines : Vector Line 32) (groups : Vector Group 8)
    (burst : BurstUnit) : MidEffects raised s { s with lines, groups, burst } where
  inReset := rfl
  chatter := ⟨rfl, rfl⟩
  pending := rfl
  cursors _ := .inl rfl
  link := rfl
  credit := rfl
  classes _ _ := rfl
  occurrences _ := ⟨rfl, fun _ => rfl⟩

theorem setLine_setLine (l : LineNo) (ln ln' : Line) (s : State) :
    (s.setLine l ln).setLine l ln' = s.setLine l ln' := by
  unfold State.setLine
  simp only [Vector.set_set]

theorem setLine_line (l : LineNo) (ln : Line) (s : State) : (s.setLine l ln).lines[l] = ln :=
  (Vector_set_get s.lines l l ln).trans (if_pos rfl)

/-- The CHATTER_END that a release asks spool `i` for before its change (R64). -/
def chatterEndOf (s : State) (c : Change) (level : Bool) (i : SpoolNo) : List Draft :=
  if c.afterChatter && s.lines[c.line].cfg.route == i then
    [{ body := .chatterEnd c.line level true, timestamp := s.time }]
  else []

/-- `u` is the state in which a change accepted in `s` is taken as qualified: its line stands as `ln`, and the CHATTER_END
of a release has been asked for. -/
structure Accepted (s : State) (c : Change) (level : Bool) (ln : Line) (u : State) : Prop where
  mode : u.mode = s.mode
  time : u.time = s.time
  groups : u.groups = s.groups
  burst : u.burst = s.burst
  lines : u.lines = s.lines.set c.line ln
  cfg : ln.cfg = s.lines[c.line].cfg
  spools : ∀ i : SpoolNo, u.spools[i] = s.spools[i].appendedAll s.time (chatterEndOf s c level i)
  effects : MidEffects [lossClass] s u

theorem accepted_setLine {s : State} {c : Change} {level : Bool} {ln : Line} (hc : c.afterChatter = false)
    (hcfg : ln.cfg = s.lines[c.line].cfg) : Accepted s c level ln (s.setLine c.line ln) where
  mode := rfl
  time := rfl
  groups := rfl
  burst := rfl
  lines := rfl
  cfg := hcfg
  spools i := by simp [chatterEndOf, hc, Spool.appendedAll]
  effects := blocks_effects _ s _ _ _

/-! ### The five ways of a change, each as its event's effect -/

section Ways

variable {s : State} {l : LineNo}

theorem rawChange_quiet {pin : Bool} (hst : s.lines[l].state = .quiet) (hp : s.lines[l].pin ≠ pin) :
    rawChange l pin s = departure l (s.setLine l { s.lines[l] with pin }) := by
  unfold rawChange
  rw [if_neg hp]
  dsimp only
  rw [hst]

theorem departure_stable (hq : s.lines[l].cfg.qualify = .stable) (h0 : s.lines[l].cfg.q = 0) :
    departure l s = qualifiedChange ⟨l, s.time, false, false⟩ s.lines[l].raw s := by
  unfold departure
  dsimp only
  rw [hq]
  exact if_pos h0

theorem departure_latch (hq : s.lines[l].cfg.qualify = .latch) :
    departure l s = qualifiedChange ⟨l, s.time, false, false⟩ s.lines[l].raw
      (if s.lines[l].cfg.q = 0 then s else s.setLine l { s.lines[l] with state := .lockout s.lines[l].cfg.q }) := by
  unfold departure
  dsimp only
  rw [hq]

/-- A quiet line that accepts a change in LATCH mode holds off for its qualify time, if it has one (R57). -/
theorem latched_line {pin : Bool} (hst : s.lines[l].state = .quiet) :
    (if s.lines[l].cfg.q = 0 then s.setLine l { s.lines[l] with pin }
      else s.setLine l { s.lines[l] with pin, state := .lockout s.lines[l].cfg.q }) =
    s.setLine l { s.lines[l] with
      pin, state := if s.lines[l].cfg.q = 0 then .quiet else .lockout s.lines[l].cfg.q } := by
  split
  · rw [← hst]
  · rfl

theorem settlingExpiry_due {t0 : Nat} (hst : s.lines[l].state = .settling t0 0) :
    settlingExpiry l s = qualifiedChange ⟨l, t0, false, false⟩ s.lines[l].raw
      (s.setLine l { s.lines[l] with state := .quiet }) := by
  unfold settlingExpiry
  dsimp only
  split
  · next t h => rw [hst] at h; injection h with h; rw [h]
  · next h => exact absurd hst (h t0)

theorem lockoutExpiry_late (hst : s.lines[l].state = .lockout 0) (hd : s.lines[l].raw ≠ s.lines[l].qualified) :
    lockoutExpiry l s = qualifiedChange ⟨l, s.time, true, false⟩ s.lines[l].raw
      (s.setLine l { s.lines[l] with state := .lockout s.lines[l].cfg.q }) := by
  unfold lockoutExpiry
  dsimp only
  rw [hst]
  exact if_neg hd

theorem releaseExpiry_change (hm : s.mode = .armed) (hst : s.lines[l].state = .suppressed 0)
    (hd : s.lines[l].raw ≠ s.lines[l].qualified) :
    releaseExpiry l s = qualifiedChange ⟨l, s.time, false, true⟩ s.lines[l].raw
      (appendTo s.lines[l].cfg.route { body := .chatterEnd l s.lines[l].raw true, timestamp := s.time }
        (s.setLine l { s.lines[l] with state := .quiet, chatterCount := 0 })) := by
  have hne : (s.lines[l].raw != s.lines[l].qualified) = true := bne_iff_ne.2 hd
  unfold releaseExpiry
  dsimp only
  rw [hst, if_neg hd, if_pos hm, hne]
  rfl

theorem chatterEndOf_released (level : Bool) (i : SpoolNo) : chatterEndOf s ⟨l, s.time, false, true⟩ level i =
    if s.lines[l].cfg.route = i then [{ body := .chatterEnd l level true, timestamp := s.time }] else [] :=
  if_congr (by simp) rfl rfl

/-- The state in which a change that ends a suppression is taken (R64). -/
theorem accepted_released (ln : Line) (hcfg : ln.cfg = s.lines[l].cfg) :
    Accepted s ⟨l, s.time, false, true⟩ s.lines[l].raw ln
      (appendTo s.lines[l].cfg.route { body := .chatterEnd l s.lines[l].raw true, timestamp := s.time }
        (s.setLine l ln)) := by
  have only := appendTo_storeOnly s.lines[l].cfg.route
    { body := .chatterEnd l s.lines[l].raw true, timestamp := s.time } (s.setLine l ln)
  exact {
    mode := only.mode
    time := only.time
    groups := only.groups
    burst := only.burst
    lines := only.lines
    cfg := hcfg
    spools := fun i => by
      rw [appendTo_spool, chatterEndOf_released]
      split
      · next h => subst h; rfl
      · rfl
    effects := (blocks_effects _ s _ _ _).trans (appendTo_effects _ _ _) }

end Ways

/-- A change is accepted in the event of its command, in a state whose line and records are those of its way (R54 to
R59, R64). -/
theorem accepts_event {s : State} {cmd : Instr} {c : Change} {level : Bool} {ln : Line} (hs : s.inReset = false)
    (hm : s.mode = .armed) (h : Accepts s cmd c level ln) :
    ∃ u, exec cmd s = .next (closeEvent s (qualifiedChange c level u)) ∧ Accepted s c level ln u := by
  have event : ∀ {f : State → State} {v : State}, f s = v →
      (.next (awake (recording f) s) : Host.Outcome State Fault Refusal) = .next (closeEvent s v) := fun {f v} e =>
    congrArg Host.Outcome.next ((awake_running hs).trans (congrArg (closeEvent s) e))
  cases h with
  | stable l pin hst hp hstable h0 =>
    have line := setLine_line l { s.lines[l] with pin } s
    refine ⟨_, event ((rawChange_quiet hst hp).trans ((departure_stable ?_ ?_).trans ?_)), accepted_setLine rfl rfl⟩
    · rw [line]; exact hstable
    · rw [line]; exact h0
    · rw [line]; rfl
  | latch l pin hst hp hlatch =>
    have line := setLine_line l { s.lines[l] with pin } s
    refine ⟨_, event ((rawChange_quiet hst hp).trans ((departure_latch ?_).trans ?_)), accepted_setLine rfl rfl⟩
    · rw [line]; exact hlatch
    · rw [line, setLine_setLine]
      exact congrArg _ (latched_line hst)
  | settled l t0 hst => exact ⟨_, event (settlingExpiry_due hst), accepted_setLine rfl rfl⟩
  | late l hst hd => exact ⟨_, event (lockoutExpiry_late hst hd), accepted_setLine rfl rfl⟩
  | released l hst hd => exact ⟨_, event (releaseExpiry_change hm hst hd), accepted_released _ rfl⟩

end Sys2Proof.Machine
end

section
/-! The records and the ring entry of a qualified change while ARMED and no burst is OPEN (R65 steps 1 to 3). -/

namespace Sys2Proof.Machine

section Steps

variable (c : Change) (level : Bool) {s : State} (shut : s.burst.phase.open? = none)

/-! ### The steps where no burst is OPEN -/

theorem logEdge_storeOnly (s : State) : StoreOnly s (logEdge c level s) := by
  unfold logEdge
  dsimp only
  split
  exacts [appendTo_storeOnly _ _ s, .refl s]

theorem logEdge_effects (s : State) : MidEffects [lossClass] s (logEdge c level s) := by
  unfold logEdge
  dsimp only
  split
  exacts [appendTo_effects _ _ s, .refl _ s]

include shut

theorem edgeGoesTo_shut (l : LineNo) (i : SpoolNo) :
    edgeGoesTo s l i = (s.lines[l].cfg.logEdges && s.lines[l].cfg.route == i) := by
  rw [edgeGoesTo, shut, Option.any_none, Bool.and_false, Bool.or_false]

/-- Step 1 of R65 at a spool: with no burst OPEN it is the only one to ask for an EDGE. -/
theorem logEdge_spool (i : SpoolNo) : (logEdge c level s).spools[i] = s.spools[i].appendedAll s.time
    (if edgeGoesTo s c.line i then [changeDraft c (.edge c.line level)] else []) := by
  rw [edgeGoesTo_shut shut]
  unfold logEdge
  dsimp only
  cases s.lines[c.line].cfg.logEdges with
  | false => rfl
  | true =>
    rw [if_pos rfl, appendTo_spool, Bool.true_and]
    rcases eq_or_ne s.lines[c.line].cfg.route i with h | h
    · rw [if_pos h, if_pos (beq_iff_eq.2 h), h]; rfl
    · rw [if_neg h, if_neg fun e => h (beq_iff_eq.1 e)]; rfl

theorem captureEdge_shut : captureEdge c level s = s := by
  unfold captureEdge
  cases h : s.burst.phase with
  | isOpen b => rw [h] at shut; exact nomatch shut
  | idle => rfl
  | cooldown => rfl

theorem enterRing_shut : enterRing c level s = s.setRing (changeRing s c level) := by
  have entry : enterRing c level s = if s.lines[c.line].cfg.lookback then
      s.setRing (pushRing ⟨c.line, level, c.time, c.late, c.afterChatter⟩ s.burst.ring) else s := by
    unfold enterRing
    cases h : s.burst.phase with
    | isOpen b => rw [h] at shut; exact nomatch shut
    | idle => rfl
    | cooldown => rfl
  rw [entry, changeRing, shut]
  cases s.lines[c.line].cfg.lookback with
  | false => rw [if_neg Bool.false_ne_true, if_neg (by simp)]; rfl
  | true => rw [if_pos rfl, if_pos ⟨rfl, rfl⟩, pushRing, List.length_append]; rfl

end Steps

/-! ### What the group unit finds -/

/-- `w` is the state in which the groups are evaluated for a change accepted in `s`. -/
structure Recorded (s : State) (c : Change) (level : Bool) (ln : Line) (w : State) : Prop where
  mode : w.mode = s.mode
  time : w.time = s.time
  groups : w.groups = s.groups
  burst : w.burst = { s.burst with ring := changeRing s c level }
  lines : w.lines = s.lines.set c.line { ln with qualified := level }
  spools : ∀ i : SpoolNo, w.spools[i] = changeSpool s c level i
  effects : MidEffects [lossClass] s w

theorem Spool.appendedAll_append (sp : Spool) (now : Nat) (ds es : List Draft) :
    sp.appendedAll now (ds ++ es) = (sp.appendedAll now ds).appendedAll now es := List.foldl_append

/-- An accepted change is evaluated after its own records (R65). -/
theorem Accepted.recorded {s u : State} {c : Change} {level : Bool} {ln : Line} (h : Accepted s c level ln u)
    (armed : s.mode = .armed) (shut : s.burst.phase.open? = none) :
    ∃ w, qualifiedChange c level u = evaluateGroups c w ∧ Recorded s c level ln w := by
  have line : u.lines[c.line] = ln := by
    rw [h.lines, Vector_set_get, if_pos rfl]
  have lines : u.lines.set c.line { ln with qualified := level } = s.lines.set c.line { ln with qualified := level } := by
    rw [h.lines, Vector.set_set]
  have cfg : (u.lines.set c.line { ln with qualified := level })[c.line].cfg = s.lines[c.line].cfg := by
    rw [Vector_set_get, if_pos rfl]
    exact h.cfg
  have level_set : MidEffects [lossClass] u (u.setLine c.line { ln with qualified := level }) := blocks_effects _ u _ _ _
  generalize hx : u.setLine c.line { ln with qualified := level } = x at level_set
  have xcfg : x.lines[c.line].cfg = s.lines[c.line].cfg := by rw [← hx]; exact cfg
  have xburst : x.burst = s.burst := by rw [← hx]; exact h.burst
  have logged := logEdge_storeOnly c level x
  have xshut : x.burst.phase.open? = none := by rw [xburst]; exact shut
  have lshut : (logEdge c level x).burst.phase.open? = none := by rw [logged.burst]; exact xshut
  have ring : changeRing (logEdge c level x) c level = changeRing s c level := by
    unfold changeRing
    rw [logged.burst, xburst, logged.lines, xcfg]
  have goes : ∀ i, edgeGoesTo x c.line i = edgeGoesTo s c.line i := fun i => by
    rw [edgeGoesTo_shut xshut, edgeGoesTo_shut shut, xcfg]
  refine ⟨(logEdge c level x).setRing (changeRing s c level), ?_, ?_⟩
  · unfold qualifiedChange
    dsimp only
    rw [if_pos (h.mode.trans armed), line, hx, captureEdge_shut c level lshut, enterRing_shut c level lshut, ring]
  · exact {
      mode := logged.mode.trans (by rw [← hx]; exact h.mode)
      time := logged.time.trans (by rw [← hx]; exact h.time)
      groups := logged.groups.trans (by rw [← hx]; exact h.groups)
      burst := by rw [State.setRing_burst, logged.burst, xburst]
      lines := logged.lines.trans (by rw [← hx]; exact lines)
      spools := fun i => by
        rw [State.setRing_spools, logEdge_spool c level xshut, goes, ← hx]
        show u.spools[i].appendedAll u.time _ = _
        rw [h.spools, h.time, ← Spool.appendedAll_append]
        rfl
      effects := ((h.effects.trans level_set).trans (logEdge_effects c level x)).trans (blocks_effects _ _ _ _ _) }

end Sys2Proof.Machine
end

section
/-! The order of the lookback entries an opening copies (R102): the model's ordering is Mathlib's insertion sort. -/

namespace Sys2Proof.Machine

/-- The order of R102 as a relation. -/
def RingEntry.Before (a b : RingEntry) : Prop :=
  a.timestamp < b.timestamp ∨ a.timestamp = b.timestamp ∧ a.line ≤ b.line

theorem RingEntry.le_iff {a b : RingEntry} : a.le b = true ↔ a.Before b := by
  simp [RingEntry.le, RingEntry.Before]

theorem RingEntry.before_total (a b : RingEntry) : a.Before b ∨ b.Before a := by
  simp only [RingEntry.Before, Fin.le_def]
  omega

theorem RingEntry.Before.trans {a b c : RingEntry} (h : a.Before b) (k : b.Before c) : a.Before c := by
  simp only [RingEntry.Before, Fin.le_def] at *
  omega

theorem insertEntry_eq (e : RingEntry) (es : List RingEntry) :
    insertEntry e es = es.orderedInsert (fun a b => a.le b = true) e := by
  induction es with
  | nil => rfl
  | cons x xs ih => rw [insertEntry, List.orderedInsert_cons, ih]

theorem orderEntries_eq (es : List RingEntry) : orderEntries es = es.insertionSort fun a b => a.le b = true := by
  induction es with
  | nil => rfl
  | cons x xs ih => exact (insertEntry_eq x _).trans (congrArg _ ih)

theorem orderEntries_perm (es : List RingEntry) : (orderEntries es).Perm es := by
  rw [orderEntries_eq]
  exact List.perm_insertionSort _ es

theorem orderEntries_ordered (es : List RingEntry) : (orderEntries es).Pairwise RingEntry.Before := by
  have total : Std.Total fun a b : RingEntry => a.le b = true :=
    ⟨fun a b => by simpa only [RingEntry.le_iff] using a.before_total b⟩
  have trans : IsTrans RingEntry fun a b => a.le b = true :=
    ⟨fun a b c => by simpa only [RingEntry.le_iff] using RingEntry.Before.trans⟩
  rw [orderEntries_eq]
  exact (List.pairwise_insertionSort (fun a b : RingEntry => a.le b = true) es).imp RingEntry.le_iff.1

/-- Entries equal in timestamp and line keep their order of arrival (R102). -/
theorem orderEntries_stable (es : List RingEntry) (a : RingEntry) :
    ((orderEntries es).filter fun b => b.timestamp = a.timestamp ∧ b.line = a.line) =
      es.filter fun b => b.timestamp = a.timestamp ∧ b.line = a.line := by
  set same : RingEntry → Bool := fun b => b.timestamp = a.timestamp ∧ b.line = a.line with hsame
  have ordered : (es.filter same).Pairwise fun a b => a.le b = true := by
    refine List.pairwise_of_forall_mem_list fun x hx y hy => ?_
    have hx := (List.mem_filter.1 hx).2
    have hy := (List.mem_filter.1 hy).2
    simp only [hsame, decide_eq_true_eq] at hx hy
    exact RingEntry.le_iff.2 (.inr ⟨hx.1.trans hy.1.symm, (hx.2.trans hy.2.symm).le⟩)
  have kept : (es.filter same).Sublist (orderEntries es) := by
    rw [orderEntries_eq]
    exact List.sublist_insertionSort ordered List.filter_sublist
  refine (List.Sublist.eq_of_length ?_ ((orderEntries_perm es).filter same).length_eq.symm).symm
  simpa only [List.filter_filter, Bool.and_self] using kept.filter same

end Sys2Proof.Machine
end

section
/-! The evaluation of a change that one group alone watches, up to its trip (R76, R77, R99). -/

namespace Sys2Proof.Machine

/-! ### One group alone -/

/-- A group that does not cover the changed line is not evaluated (R76). -/
theorem evaluateGroup_uncovered {c : Change} {g : GroupNo} {s : State} (h : Evaluation.covers s c g = false) :
    evaluateGroup c g s = s := if_neg (ne_true_of_eq_false h)

theorem foldl_evaluateGroup_uncovered {c : Change} {s : State} {gs : List GroupNo}
    (h : ∀ g ∈ gs, Evaluation.covers s c g = false) : gs.foldl (fun acc g => evaluateGroup c g acc) s = s := by
  induction gs with
  | nil => rfl
  | cons g gs ih =>
    rw [List.foldl_cons, evaluateGroup_uncovered (h g List.mem_cons_self)]
    exact ih fun k hk => h k (List.mem_cons_of_mem g hk)

/-- Where no other group covers the line, the evaluations are that of `g` (R76). -/
theorem evaluateGroups_alone {c : Change} {g : GroupNo} {s : State}
    (before : ∀ k, k ≠ g → Evaluation.covers s c k = false)
    (after : ∀ k, k ≠ g → Evaluation.covers (evaluateGroup c g s) c k = false) :
    evaluateGroups c s = evaluateGroup c g s := by
  obtain ⟨as, bs, h⟩ := List.append_of_mem (List.mem_finRange g)
  have nodup := List.nodup_finRange 8
  rw [h, List.nodup_append] at nodup
  obtain ⟨-, hbs, disjoint⟩ := nodup
  have has : ∀ k ∈ as, k ≠ g := fun k hk => disjoint k hk g List.mem_cons_self
  have hbs : ∀ k ∈ bs, k ≠ g := fun k hk e => (List.nodup_cons.1 hbs).1 (e ▸ hk)
  unfold evaluateGroups
  rw [h, List.foldl_append, foldl_evaluateGroup_uncovered fun k hk => before k (has k hk), List.foldl_cons]
  exact foldl_evaluateGroup_uncovered fun k hk => after k (hbs k hk)

/-- A conforming group whose members no longer conform trips (R76, R77). -/
theorem evaluateGroup_trips {c : Change} {g : GroupNo} {s : State} (hc : Evaluation.covers s c g = true)
    (hs : s.groups[g].state = .conforming) (h : conforms s.lines s.groups[g].cfg = false) :
    evaluateGroup c g s = tripGroup g c s := by
  refine (if_pos hc).trans ?_
  rw [hs, h]
  rfl

/-! ### The trip of a BURST group that opens a burst -/

/-- The trip the group unit hands to the burst controller (R79). -/
def tripOf (g : GroupNo) (c : Change) (s : State) : Trip where
  group := g
  cfg := s.groups[g].cfg
  time := c.time
  record d id := c.draft (.trip g c.line (memberLevels s.lines s.groups[g].cfg) (satAdd max16 s.groups[g].tripCount 1) d id)

/-- The state in which the burst controller is asked (R77). -/
def countTrip (g : GroupNo) (c : Change) (s : State) : State :=
  s.setGroup g { s.groups[g] with state := .tripped c.time, tripCount := satAdd max16 s.groups[g].tripCount 1 }

theorem tripGroup_burst {c : Change} {g : GroupNo} {s : State} (h : s.groups[g].cfg.action = .burst) :
    tripGroup g c s =
      raise tripClass (.trip (single g) 1
        ((burstTrip (tripOf g c s) (countTrip g c s)).2.map fun q => (s.groups[g].cfg.route, q)))
        (burstTrip (tripOf g c s) (countTrip g c s)).1 := by
  unfold tripGroup
  dsimp only
  rw [h]
  rfl

/-- In IDLE, and in COOLDOWN at the breakthrough level, a burst tries to open (R99, R106). -/
theorem burstTrip_tries {t : Trip} {s : State}
    (h : s.burst.phase = .idle ∨
      ∃ id i g tm, s.burst.phase = .cooldown id i g tm ∧ s.burst.settings.p ≤ t.cfg.priority) :
    burstTrip t s = tryOpen t (s.setPhase .idle) := by
  unfold burstTrip
  obtain h | ⟨id, i, g, tm, h, hp⟩ := h
  · have idle : s.setPhase .idle = s := by rw [← h]; rfl
    rw [h, idle]
  · rw [h]
    exact if_pos hp

theorem tryOpen_room {t : Trip} {s : State} (he : s.spools[t.cfg.route].erasing = none)
    (hr : s.spools[t.cfg.route].room (openingNeed s.spools[t.cfg.route]) true = true) :
    tryOpen t s = openBurst t s := by
  unfold tryOpen
  dsimp only
  rw [he, hr]
  rfl

end Sys2Proof.Machine
end

section
/-! The burst that opens: its spool up to the TRIP record, and what else the opening leaves (R22, R100 to R102). -/

namespace Sys2Proof.Machine

namespace Spool

variable (sp : Spool) (now : Nat) (burstOpen trip : Draft)

/-- A spool with room for an opening, after its TRIP record has been placed (R22). -/
def tripped : Spool :=
  let m := if sp.current = none then 0 else 1
  let l := if sp.tally = none then 0 else 1
  { sp with
    held := sp.held.drop (m + 2 + l + 1 - (sp.capacity - sp.held.length)) ++ sp.startMark now ++
      [{ seq := sp.nextSeq + m, seg := sp.nextSeg, first := true, inBurst := true, draft := burstOpen }] ++
      sp.openingLoss now (sp.nextSeq + m + 1) ++
      [{ seq := sp.nextSeq + m + 1 + l, seg := sp.nextSeg, first := false, inBurst := true, draft := trip }],
    nextSeq := sp.nextSeq + m + 2 + l, nextSeg := sp.nextSeg + 1, current := some sp.nextSeg, segCount := 2 + l,
    burstSeg := true, reservation := true, tally := none }

theorem toNat_isSome {α : Type} (o : Option α) [Decidable (o = none)] :
    o.isSome.toNat = if o = none then 0 else 1 := by
  cases o <;> simp

variable {sp burstOpen trip}

theorem openingNeed_room (h : sp.room (openingNeed sp) true = true) :
    sp.nextSeq + openingNeed sp + sp.reservation.toNat ≤ max48 ∧ openingNeed sp ≤ sp.free + sp.removable := by
  obtain ⟨hn, hr⟩ := (sp.room_iff _ _).1 h
  unfold numbersAllow at hn
  rw [Bool.and_eq_true, decide_eq_true_eq] at hn
  exact ⟨hn.1, hr⟩

/-- The spool of an opening when the TRIP record is asked for, as `sp` with slots taken. -/
theorem beforeTrip_taken (ho : burstOpen.body.markInfo = none) (hres : sp.reservation = false)
    (hroom : openingNeed sp ≤ sp.free + sp.removable) :
    sp.Taken (2 + sp.current.isSome.toNat + sp.tally.isSome.toNat)
      (sp.startMark now ++
        [{ seq := sp.nextSeq + sp.current.isSome.toNat, seg := sp.nextSeg, first := true, inBurst := true,
           draft := burstOpen }] ++ sp.openingLoss now (sp.nextSeq + sp.current.isSome.toNat + 1))
      (sp.beforeTrip now burstOpen) := by
  rw [beforeTrip_eq now ho hres hroom]
  exact ⟨rfl, rfl, rfl, rfl, by simp [burstOpened, startMark_length, openingLoss_length, hres]; omega⟩

/-- With room for the opening the TRIP record is placed, in the burst segment (R22). -/
theorem beforeTrip_append (ho : burstOpen.body.markInfo = none) (ht : trip.body.markInfo = none)
    (he : sp.enabled = true) (hx : sp.erasing = none) (hres : sp.reservation = false)
    (h : sp.room (openingNeed sp) true = true) :
    ((sp.beforeTrip now burstOpen).append now trip).spool = sp.tripped now burstOpen trip ∧
      ((sp.beforeTrip now burstOpen).append now trip).placed =
        some (sp.nextSeq + sp.current.isSome.toNat + 1 + sp.tally.isSome.toNat) := by
  obtain ⟨numbers, slots⟩ := openingNeed_room h
  have taken := beforeTrip_taken now ho hres slots
  have eq := beforeTrip_eq now ho hres slots
  have need : openingNeed sp = 2 + sp.current.isSome.toNat + sp.tally.isSome.toNat + 1 := by
    unfold openingNeed
    omega
  rw [need] at slots numbers
  have room : (sp.beforeTrip now burstOpen).room 1 = true := by
    refine (room_iff _ _ _).2 ⟨(numbersAllow_iff _ _).2 ⟨?_, ?_⟩, (taken.slot slots).1⟩
    · rw [eq]
      simp only [burstOpened, Bool.toNat_true]
      omega
    · rw [eq]
      exact fun k => nomatch k
  rw [append_place (by rw [eq]; exact he) (by rw [eq]; exact hx) (by rw [eq]) room]
  refine ⟨?_, by rw [eq]⟩
  dsimp only
  rw [taken.makeRoom slots]
  refine (place_record _ ht).trans ?_
  rw [eq, tripped, ← toNat_isSome, ← toNat_isSome]
  have slot : 2 + sp.current.isSome.toNat + sp.tally.isSome.toNat + 1 - sp.free =
      sp.current.isSome.toNat + 2 + sp.tally.isSome.toNat + 1 - (sp.capacity - sp.held.length) := by
    rw [free, occupancy, hres, Bool.toNat_false, Nat.add_zero]
    omega
  have next : sp.nextSeq + sp.current.isSome.toNat + 1 + sp.tally.isSome.toNat + 1 =
      sp.nextSeq + sp.current.isSome.toNat + 2 + sp.tally.isSome.toNat := by omega
  have count : satAdd max32 (1 + sp.tally.isSome.toNat) 1 = 2 + sp.tally.isSome.toNat := by
    cases sp.tally <;> rfl
  rw [← slot, ← next, ← count]
  simp [burstOpened]

end Spool

end Sys2Proof.Machine
end

section
/-! The state an opening trip leaves, before the end of its event (R77 to R80, R99 to R102). -/

namespace Sys2Proof.Machine

/-! ### What opening a burst leaves -/

section OpenBurst

variable (t : Trip) (s : State)

/-- The lookback entries of an opening, in their order (R102). -/
def Trip.lookback : List RingEntry := orderEntries (selectEntries s.burst.ring t.time s.burst.settings.tl)

/-- The deadline of an opening (R101). -/
def Trip.deadline : Nat := deadlineOf (t.time + 1000 * min t.cfg.w s.burst.settings.m)

/-- The BURST_OPEN record of an opening (R22, R101). -/
def Trip.burstOpen : Draft :=
  { body := .burstOpen s.burst.nextId t.group (t.deadline s) (t.lookback s).length, timestamp := s.time }

theorem openBurst_spool (j : SpoolNo) : (openBurst t s).1.spools[j] = if t.cfg.route = j then
    ((s.spools[t.cfg.route].beforeTrip s.time (t.burstOpen s)).appended s.time
      (t.record .opened (some s.burst.nextId))).appendedAll s.time ((t.lookback s).map RingEntry.draft)
    else s.spools[j] := openingRun_spool _ _ _ _ _ _

theorem openBurst_placed : (openBurst t s).2 =
    ((s.spools[t.cfg.route].beforeTrip s.time (t.burstOpen s)).append s.time
      (t.record .opened (some s.burst.nextId))).placed := by
  show (append t.cfg.route (t.record .opened (some s.burst.nextId)) (beforeTrip t.cfg.route (t.burstOpen s) s)).2 = _
  rw [append_placed, beforeTrip_spool, if_pos rfl, (beforeTrip_storeOnly _ _ _).time]

theorem openBurst_burst : (openBurst t s).1.burst = { s.burst with
    phase := .isOpen { id := s.burst.nextId, spool := t.cfg.route, group := t.group, t0 := t.time,
                       deadline := t.deadline s, timer := t.deadline s - s.time },
    nextId := nextBurstId s.burst.nextId, ring := [] } := by
  unfold openBurst
  dsimp only
  rw [(openingRun_storeOnly _ _ _ _ s).burst]
  rfl

theorem openBurst_storeOnly : StoreOnly { s with burst := (openBurst t s).1.burst } (openBurst t s).1 :=
  have run := openingRun_storeOnly t.cfg.route (t.burstOpen s) (t.record .opened (some s.burst.nextId))
    ((t.lookback s).map RingEntry.draft) s
  ⟨run.mode, run.time, run.lines, run.groups, rfl⟩

theorem openBurst_effects : MidEffects [lossClass] s (openBurst t s).1 :=
  (openingRun_effects t.cfg.route (t.burstOpen s) (t.record .opened (some s.burst.nextId))
    ((t.lookback s).map RingEntry.draft) s).trans (blocks_effects _ _ _ _ _)

end OpenBurst

/-! ### An opening trip -/

/-- The TRIP record of an opening (R80). -/
def openedTrip (g : GroupNo) (c : Change) (s : State) : Draft := (tripOf g c s).record .opened (some s.burst.nextId)

/-- `v` is the state that a trip of group `g`, opening a burst on spool `i`, leaves of `w`. -/
structure TripOpened (w : State) (c : Change) (g : GroupNo) (i : SpoolNo) (v : State) : Prop where
  mode : v.mode = w.mode
  time : v.time = w.time
  lines : v.lines = w.lines
  groups : v.groups = w.groups.set g
    { w.groups[g] with state := .tripped c.time, tripCount := min (w.groups[g].tripCount + 1) 65535 }
  burst : v.burst = { w.burst with
    phase := .isOpen { id := w.burst.nextId, spool := i, group := g, t0 := c.time,
                       deadline := (tripOf g c w).deadline w, timer := (tripOf g c w).deadline w - w.time },
    nextId := nextBurstId w.burst.nextId, ring := [] }
  spool : v.spools[i] = (w.spools[i].tripped w.time ((tripOf g c w).burstOpen w) (openedTrip g c w)).appendedAll w.time
    (((tripOf g c w).lookback w).map RingEntry.draft)
  others : ∀ j : SpoolNo, j ≠ i → v.spools[j] = w.spools[j]
  tripClass : v.notes.classes[tripClass] = w.notes.classes[tripClass].take (.trip (single g) 1
    (some (i, w.spools[i].nextSeq + w.spools[i].current.isSome.toNat + 1 + w.spools[i].tally.isSome.toNat)))
  effects : MidEffects [Machine.tripClass, lossClass] w v

/-- A trip of a BURST group on a route with room for the opening, with no burst OPEN and no cooldown it cannot break
through (R77 to R80, R99 to R101). -/
theorem tripGroup_opens {c : Change} {g : GroupNo} {w : State} {i : SpoolNo} (hb : w.groups[g].cfg.action = .burst)
    (hi : w.groups[g].cfg.route = i)
    (hp : w.burst.phase = .idle ∨
      ∃ id i' g' tm, w.burst.phase = .cooldown id i' g' tm ∧ w.burst.settings.p ≤ w.groups[g].cfg.priority)
    (he : w.spools[i].enabled = true) (hx : w.spools[i].erasing = none) (hres : w.spools[i].reservation = false)
    (hr : w.spools[i].room (openingNeed w.spools[i]) true = true) : TripOpened w c g i (tripGroup g c w) := by
  obtain ⟨spool, placed⟩ := Spool.beforeTrip_append (sp := w.spools[i]) w.time (burstOpen := (tripOf g c w).burstOpen w)
    (trip := openedTrip g c w) rfl rfl he hx hres hr
  subst hi
  have asked : burstTrip (tripOf g c w) (countTrip g c w) = openBurst (tripOf g c w) ((countTrip g c w).setPhase .idle) :=
    (burstTrip_tries hp).trans (tryOpen_room hx hr)
  have opened := openBurst_storeOnly (tripOf g c w) ((countTrip g c w).setPhase .idle)
  have run : MidEffects [lossClass] w (openBurst (tripOf g c w) ((countTrip g c w).setPhase .idle)).1 :=
    (blocks_effects _ w _ _ _).trans (openBurst_effects _ _)
  have place : (openBurst (tripOf g c w) ((countTrip g c w).setPhase .idle)).2 = _ :=
    (openBurst_placed _ _).trans placed
  rw [tripGroup_burst hb, asked, place]
  exact {
    mode := opened.mode
    time := opened.time
    lines := opened.lines
    groups := opened.groups
    burst := openBurst_burst _ _
    spool := by
      rw [raise_spools, openBurst_spool]
      exact (if_pos rfl).trans (congrArg (Spool.appendedAll · _ _) spool)
    others := fun j hj => by
      rw [raise_spools, openBurst_spool]
      exact if_neg hj.symm
    tripClass := by
      rw [raise_class, if_pos rfl, run.classes _ (by decide)]
      rfl
    effects := (run.mono fun _ h => List.mem_cons_of_mem _ h).trans
      ((raise_effects _ _ _).mono fun _ h => List.mem_cons.2 (.inl (List.mem_singleton.1 h))) }

end Sys2Proof.Machine
end

section
/-! The whole event of a change whose trip opens a burst. -/

namespace Sys2Proof.Machine

/-- Ordinary appends keep what one append keeps. -/
theorem Spool.appendedAll_keeps (sp : Spool) (now : Nat) (ds : List Draft) :
    (sp.appendedAll now ds).capacity = sp.capacity ∧ (sp.appendedAll now ds).reservation = sp.reservation ∧
      (sp.appendedAll now ds).erasing = sp.erasing := by
  induction ds generalizing sp with
  | nil => exact ⟨rfl, rfl, rfl⟩
  | cons d ds ih =>
    obtain ⟨capacity, reservation, erasing⟩ := ih (sp.appended now d)
    obtain ⟨hc, -, -, hr, he, -⟩ := sp.append_keeps now d
    exact ⟨capacity.trans hc, reservation.trans hr, erasing.trans he⟩

/-- The end of an event raises no class but NEAR_FULL (R24). -/
theorem closeEvent_class {k : ClassNo} (h : k ≠ nearFullClass) (s0 s : State) :
    (closeEvent s0 s).notes.classes[k] = s.notes.classes[k] := by
  refine ((evaluateNearFull_effects s0 _).classes k fun hm => h (List.mem_singleton.1 hm)).trans ?_
  rw [endLappedStreams_eq]

theorem SideEffects.mono {r r' : List ClassNo} {s t : State} (h : SideEffects r s t) (hr : ∀ c ∈ r, c ∈ r') :
    SideEffects r' s t :=
  { h with classes := fun c hc => h.classes c fun hm => hc (hr c hm) }

section Trip

variable {s w : State} {c : Change} {level : Bool} {ln : Line} {g : GroupNo} (hw : Recorded s c level ln w)
include hw

/-- A group that alone watches the line, and no longer conforms, is all that the change's evaluations come to. -/
theorem Recorded.evaluateGroups_trips (alone : watchedOnlyBy s c.line (some g)) (enabled : s.groups[g].cfg.enabled = true)
    (member : s.groups[g].cfg.members.getLsbD c.line.val = true) (conforming : s.groups[g].state = .conforming)
    (differs : ∃ m : LineNo, s.groups[g].cfg.members.getLsbD m.val = true ∧
      (if m = c.line then level else s.lines[m].qualified) ≠ s.groups[g].cfg.reference.getLsbD m.val)
    (groups : ∃ gr, (tripGroup g c w).groups = w.groups.set g gr) : evaluateGroups c w = tripGroup g c w := by
  have uncovered : ∀ k, k ≠ g → Evaluation.covers s c k = false := fun k hk => by
    rw [Evaluation.covers, Bool.and_eq_false_iff]
    cases he : s.groups[k].cfg.enabled with
    | false => exact .inl rfl
    | true => exact .inr (alone k (fun e => hk (Option.some.inj e)) he)
  have covers : ∀ k, Evaluation.covers w c k = Evaluation.covers s c k := fun k => by
    rw [Evaluation.covers, Evaluation.covers, hw.groups]
  have trips : evaluateGroup c g w = tripGroup g c w := by
    refine evaluateGroup_trips ((covers g).trans ?_) ?_ (eq_false_of_ne_true fun h => ?_)
    · rw [Evaluation.covers, enabled, member]; rfl
    · rw [hw.groups]; exact conforming
    · obtain ⟨m, hm, hne⟩ := differs
      rw [hw.groups, hw.lines] at h
      exact hne ((showsChange_set s c level ln m).symm.trans ((conforms_iff _ _).1 h m hm))
  rw [← trips]
  refine evaluateGroups_alone (fun k hk => (covers k).trans (uncovered k hk)) fun k hk => ?_
  obtain ⟨gr, hgr⟩ := groups
  rw [trips, Evaluation.covers, hgr, Vector_set_get, if_neg hk.symm]
  exact (covers k).trans (uncovered k hk)

theorem Recorded.lookback : (tripOf g c w).lookback w = orderEntries
    ((changeRing s c level).filter fun e => c.time ≤ e.timestamp + 1000 * s.burst.settings.tl) := by
  unfold Trip.lookback
  rw [hw.burst]
  rfl

theorem Recorded.deadline (h : c.time + 1000 * min s.groups[g].cfg.w s.burst.settings.m ≤ max48) :
    (tripOf g c w).deadline w = c.time + 1000 * min s.groups[g].cfg.w s.burst.settings.m := by
  unfold Trip.deadline tripOf
  dsimp only
  rw [hw.burst, hw.groups]
  exact if_pos h

theorem Recorded.burstOpen (h : c.time + 1000 * min s.groups[g].cfg.w s.burst.settings.m ≤ max48) :
    (tripOf g c w).burstOpen w =
      { body := .burstOpen s.burst.nextId g (c.time + 1000 * min s.groups[g].cfg.w s.burst.settings.m)
          ((changeRing s c level).filter fun e => c.time ≤ e.timestamp + 1000 * s.burst.settings.tl).length,
        timestamp := s.time } := by
  unfold Trip.burstOpen
  rw [hw.deadline h, hw.lookback, (orderEntries_perm _).length_eq, hw.burst, hw.time]
  rfl

theorem Recorded.openedTrip : openedTrip g c w =
    { body := .trip g c.line (memberLevels w.lines s.groups[g].cfg) (min (s.groups[g].tripCount + 1) 65535) .opened
        (some s.burst.nextId),
      timestamp := c.time, late := c.late, afterChatter := c.afterChatter } := by
  unfold Machine.openedTrip tripOf
  rw [hw.burst, hw.groups]
  rfl

end Trip

/-- Settles O42: the change is accepted and recorded, its evaluations come to the one trip, which opens the burst; the
end of the event adds the near-full comparison. -/
theorem burstOpens : Obligations.BurstOpens := by
  intro s cmd c level ln g i running armed accepts alone enabled member action route conforming differs phase _ spoolOn
    notErasing notReserved sp selected m l d id hroom hd
  have shut : s.burst.phase.open? = none := by
    obtain h | ⟨_, _, _, _, h, -⟩ := phase <;> rw [h] <;> rfl
  obtain ⟨u, executed, accepted⟩ := accepts_event running armed accepts
  obtain ⟨w, evaluated, hw⟩ := accepted.recorded armed shut
  have keeps := fun j => Spool.appendedAll_keeps s.spools[j] s.time
    (chatterEndOf s c level j ++ if edgeGoesTo s c.line j then [changeDraft c (.edge c.line level)] else [])
  have spi : w.spools[i] = sp := hw.spools i
  have m_eq : sp.current.isSome.toNat = m := Spool.toNat_isSome _
  have l_eq : sp.tally.isSome.toNat = l := Spool.toNat_isSome _
  have opened : TripOpened w c g i (tripGroup g c w) := by
    refine tripGroup_opens ?_ ?_ ?_ ?_ ?_ ?_ ?_
    · rw [hw.groups]; exact action
    · rw [hw.groups]; exact route
    · rw [hw.burst, hw.groups]; exact phase
    · rw [spi, Spool.enabled_iff]; exact ((keeps i).1.trans_ne (Spool.enabled_iff.1 spoolOn))
    · rw [spi]; exact (keeps i).2.2.trans notErasing
    · rw [spi]; exact (keeps i).2.1.trans notReserved
    · rw [spi, openingNeed, m_eq, l_eq]; exact hroom
  have ended := closeEvent_storeOnly s (tripGroup g c w)
  have trip := hw.evaluateGroups_trips alone enabled member conforming differs ⟨_, opened.groups⟩
  have erasing : ∀ j : SpoolNo, (tripGroup g c w).spools[j].erasing = s.spools[j].erasing := fun j => by
    by_cases hj : j = i
    · subst hj
      rw [opened.spool, (Spool.appendedAll_keeps _ _ _).2.2, spi]
      exact (keeps j).2.2
    · rw [opened.others j hj, hw.spools]
      exact (keeps j).2.2
  refine ⟨closeEvent s (tripGroup g c w), memberLevels w.lines s.groups[g].cfg, orderEntries selected,
    ?_, fun k => ?_, orderEntries_perm _, orderEntries_ordered _, orderEntries_stable _, ?_, fun j hj => ?_,
    ?_, ?_, ?_, ?_, ?_, ?_, ?_⟩
  · rw [executed, evaluated, trip]
  · rw [memberLevels_getLsbD, hw.lines, showsChange_set]
  · rw [closeEvent_spool, opened.spool, spi, hw.time, hw.lookback, hw.burstOpen hd, hw.openedTrip]
    rfl
  · rw [closeEvent_spool, opened.others j hj, hw.spools]
  · exact ended.mode.trans (opened.mode.trans hw.mode)
  · exact ended.time.trans (opened.time.trans hw.time)
  · rw [ended.burst, opened.burst, hw.deadline hd, hw.burst, hw.time]
    rfl
  · rw [ended.groups, opened.groups, hw.groups]
  · exact ended.lines.trans (opened.lines.trans hw.lines)
  · rw [closeEvent_class (by decide), opened.tripClass, hw.effects.classes _ (by decide), spi, m_eq, l_eq]
    rfl
  · refine (closeEvent_effects ((hw.effects.mono fun _ h => List.mem_cons_of_mem _ h).trans opened.effects) erasing).mono ?_
    simp

end Sys2Proof.Machine
end

section
/-! The places of a spool at which a cursor may stand (R134), and what each operation of the store leaves of them. -/

namespace Sys2Proof.Machine

/-- A place of a spool: a held record, or END (R134). -/
def Spool.HasPlace (sp : Spool) (p : Nat) : Prop := sp.holds p = true ∨ p = sp.nextSeq

theorem Spool.holds_iff {sp : Spool} {p : Nat} : sp.holds p = true ↔ ∃ r ∈ sp.held, r.seq = p := by
  simp [Spool.holds]

/-- Every place of `sp` but the `removed` ones is a place of `sp'`, and no erase starts in between. -/
structure Spool.KeepsPlaces (sp : Spool) (removed : List Nat) (sp' : Spool) : Prop where
  places : ∀ p, sp.HasPlace p → p ∉ removed → sp'.HasPlace p
  erasing : sp.erasing = none → sp'.erasing = none

namespace Spool.KeepsPlaces

variable {sp sp' sp'' : Spool} {removed : List Nat}

/-- The places are those of the records and the next sequence alone. -/
theorem frame (hh : sp'.held = sp.held) (hn : sp'.nextSeq = sp.nextSeq)
    (he : sp.erasing = none → sp'.erasing = none) : sp.KeepsPlaces removed sp' where
  places p hp _ := by rwa [HasPlace, holds, hh, hn]
  erasing := he

theorem refl (sp : Spool) : sp.KeepsPlaces removed sp := .frame rfl rfl id

theorem trans (h : sp.KeepsPlaces removed sp') (k : sp'.KeepsPlaces [] sp'') : sp.KeepsPlaces removed sp'' where
  places p hp hr := k.places p (h.places p hp hr) List.not_mem_nil
  erasing he := k.erasing (h.erasing he)

/-- A record placed takes the number that END had (R13). -/
theorem place (sp : Spool) (d : Draft) : sp.KeepsPlaces [] (sp.place d) where
  places p hp _ := by
    refine .inl (holds_iff.2 ?_)
    obtain hp | rfl := hp
    · obtain ⟨r, hr, e⟩ := holds_iff.1 hp
      exact ⟨r, List.mem_append_left _ hr, e⟩
    · exact ⟨sp.newRecord d, List.mem_append_right _ (List.mem_singleton.2 rfl), rfl⟩
  erasing := id

theorem removeOldest (sp : Spool) (n : Nat) :
    sp.KeepsPlaces ((sp.held.take n).map (·.seq)) (sp.removeOldest n) where
  places p hp hr := hp.imp_left fun hp => by
    obtain ⟨r, hm, rfl⟩ := holds_iff.1 hp
    rw [← List.take_append_drop n sp.held, List.mem_append] at hm
    exact holds_iff.2 ⟨r, hm.resolve_left fun hm => hr (List.mem_map_of_mem hm), rfl⟩
  erasing := id

theorem makeRoom (sp : Spool) (k : Nat) : sp.KeepsPlaces (sp.overwritten k) (sp.makeRoom k) := removeOldest sp _

theorem settle (sp : Spool) (now : Nat) : sp.KeepsPlaces [] (sp.settle now) := by
  unfold Spool.settle
  split
  · exact (place sp _).trans (.frame rfl rfl id)
  · exact refl sp

theorem lose (sp : Spool) (t : Nat) : sp.KeepsPlaces [] (sp.lose t) := .frame rfl rfl id

/-- An ordinary append takes no place but those it hands to the cursor unit (R14). -/
theorem append (sp : Spool) (now : Nat) (d : Draft) :
    sp.KeepsPlaces (sp.append now d).removed (sp.append now d).spool := by
  obtain ⟨-, e⟩ | ⟨-, -, e⟩ | ⟨-, -, -, -, e⟩ | ⟨ty, -, -, -, -, e⟩ | ⟨ty, -, -, -, -, -, e⟩ := sp.append_cases now d
  all_goals rw [e]
  · exact refl sp
  · exact lose sp _
  · exact (makeRoom sp 1).trans (place _ d)
  · exact ((makeRoom sp 2).trans (settle _ now)).trans (place _ d)
  · exact ((makeRoom sp 1).trans (settle _ now)).trans (lose _ _)

theorem fill (sp : Spool) (d : Draft) : sp.KeepsPlaces [] (sp.fill d) :=
  ⟨(place { sp with reservation := false } d).places, id⟩

theorem pinForBurst (sp : Spool) (seg : Nat) : sp.KeepsPlaces [] (sp.pinForBurst seg) := by
  unfold Spool.pinForBurst
  split
  exacts [refl sp, .frame rfl rfl id]

theorem atEventEnd (sp0 sp : Spool) : sp.KeepsPlaces [] (Spool.atEventEnd sp0 sp) := by
  unfold Spool.atEventEnd
  split
  exacts [refl sp, .frame rfl rfl id]

end Spool.KeepsPlaces

/-- Every position counted out among the held records is a place. -/
theorem Spool.hasPlace_positionAt (sp : Spool) (idx : Nat) : sp.HasPlace (sp.positionAt idx) := by
  unfold Spool.positionAt
  cases h : sp.held[idx]? with
  | none => exact .inr rfl
  | some r => exact .inl (Spool.holds_iff.2 ⟨r, List.mem_of_getElem? h, rfl⟩)

/-- Every start of an OPEN_CURSOR that is not refused gives a place (R136). -/
theorem hasPlace_startPosition {sp : Spool} {st : Start} {pos : Nat} (h : startPosition sp st = .ok pos) :
    sp.HasPlace pos := by
  cases st with
  | oldest => cases h; exact sp.hasPlace_positionAt _
  | newest => cases h; exact sp.hasPlace_positionAt _
  | atEnd => cases h; exact .inr rfl
  | seq n =>
    dsimp only [startPosition] at h
    split at h
    · next hn => cases h; exact .inl hn
    · cases h
  | segment g =>
    dsimp only [startPosition] at h
    split at h
    · next r hr => cases h; exact .inl (Spool.holds_iff.2 ⟨r, List.mem_of_find?_eq_some hr, rfl⟩)
    · cases h

/-- A SKIP goes to a place (R143). -/
theorem Spool.hasPlace_skipTarget (sp : Spool) (n : Int) (idx : Nat) : sp.HasPlace (sp.skipTarget n idx).2.2 := by
  unfold Spool.skipTarget
  split
  · next oldest _ _ ho _ =>
    dsimp only
    split
    · next r hr => exact .inl (Spool.holds_iff.2 ⟨r, List.mem_of_find?_eq_some hr, rfl⟩)
    · split
      · exact .inr rfl
      · exact .inl (Spool.holds_iff.2 ⟨oldest, List.mem_of_mem_head? ho, rfl⟩)
  · exact .inr rfl

end Sys2Proof.Machine
end

section
/-! The cursor unit's law through the events that record (R42, R134, R146): whatever leaves a spool is handed to the
cursor unit, and every other place of the spool stays. -/

namespace Sys2Proof.Machine

variable {s t : State}

/-! ### The law and the updates of a state -/

/-- An open cursor after a removal was open there before, at a place that was not removed (R146). -/
theorem Cursor.place?_lap {i j : SpoolNo} {removed : List Nat} {c : Cursor} {p : Nat}
    (h : (c.lap i removed).place? = some (j, p)) : c.place? = some (j, p) ∧ ¬ (j = i ∧ p ∈ removed) := by
  rw [Cursor.lap_eq] at h
  split at h
  · exact nomatch h
  · next hc => exact ⟨h, fun k => hc (by simp [h, k])⟩

/-- The records that leave spool `i` are handed to the cursor unit (R14, R31, R146). -/
theorem CursorLaw.lapped {i : SpoolNo} {removed : List Nat} {sp : Spool} (h : CursorLaw s)
    (k : s.spools[i].KeepsPlaces removed sp) : CursorLaw (lapCursors i removed (s.setSpool i sp)) := by
  intro c j p hp
  rw [lapCursors_cursor] at hp
  obtain ⟨hp, hr⟩ := Cursor.place?_lap hp
  obtain ⟨place, idle⟩ := h c j p hp
  rw [lapCursors_spools, setSpool_spool]
  split
  · next e =>
    subst e
    exact ⟨k.places p place fun hm => hr ⟨rfl, hm⟩, k.erasing idle⟩
  · exact ⟨place, idle⟩

/-- The cursors are as before, and every spool keeps its places. -/
theorem CursorLaw.keepsPlaces (h : CursorLaw s) (hc : t.cursors = s.cursors)
    (hs : ∀ i : SpoolNo, s.spools[i].KeepsPlaces [] t.spools[i]) : CursorLaw t := by
  intro c i p hp
  rw [hc] at hp
  obtain ⟨place, idle⟩ := h c i p hp
  exact ⟨(hs i).places p place List.not_mem_nil, (hs i).erasing idle⟩

/-- The store and the cursors are as before. -/
theorem CursorLaw.same (h : CursorLaw s) (hs : t.spools = s.spools) (hc : t.cursors = s.cursors) : CursorLaw t :=
  h.keepsPlaces hc fun _ => by rw [hs]; exact .refl _

theorem CursorLaw.setSpool {i : SpoolNo} {sp : Spool} (h : CursorLaw s) (k : s.spools[i].KeepsPlaces [] sp) :
    CursorLaw (s.setSpool i sp) := h.keepsPlaces rfl fun j => by
  rw [setSpool_spool]
  split
  · next e => exact e ▸ k
  · exact .refl _

namespace CursorLaw

/-! ### Appends, direct placements and the end of an event -/

theorem append (i : SpoolNo) (d : Draft) (h : CursorLaw s) : CursorLaw (append i d s).1 := by
  have placed := h.lapped (Spool.KeepsPlaces.append s.spools[i] s.time d)
  unfold Machine.append
  dsimp only
  split
  exacts [placed.same rfl rfl, placed]

theorem appendTo (i : SpoolNo) (d : Draft) (h : CursorLaw s) : CursorLaw (appendTo i d s) := h.append i d

theorem appendToAll (d : Draft) (h : CursorLaw s) : CursorLaw (appendToAll d s) :=
  List.foldlRecOn _ _ h fun u k i _ => by
    split
    exacts [k.appendTo i d, k]

theorem placeDirect (i : SpoolNo) (d : Draft) (h : CursorLaw s) : CursorLaw (placeDirect i d s) :=
  h.lapped ((Spool.KeepsPlaces.makeRoom _ 1).trans (.place _ d))

theorem setAside (i : SpoolNo) (h : CursorLaw s) : CursorLaw (setAside i s) :=
  h.lapped ((Spool.KeepsPlaces.makeRoom _ 1).trans (.frame rfl rfl id))

theorem closeEvent (s0 : State) (h : CursorLaw s) : CursorLaw (closeEvent s0 s) :=
  h.keepsPlaces (closeEvent_cursors s0 s) fun i => by
    rw [closeEvent_spool]
    exact .atEventEnd _ _

theorem recording {f : State → State} (hf : CursorLaw (f s)) : CursorLaw (recording f s) := hf.closeEvent s

/-! ### Bursts -/

/-- The direct placements of an opening run (R22). -/
theorem beforeTrip (i : SpoolNo) (burstOpen : Draft) (h : CursorLaw s) : CursorLaw (beforeTrip i burstOpen s) := by
  have closed : CursorLaw (closeForOpening i s) := by
    unfold closeForOpening
    split
    exacts [(h.setAside i).placeDirect i _, h.setAside i]
  have opened := (closed.setSpool (i := i) (sp := { (closeForOpening i s).spools[i] with burstSeg := true })
    (.frame rfl rfl id)).placeDirect i burstOpen
  unfold Machine.beforeTrip
  split
  exacts [(opened.placeDirect i _).setSpool (.frame rfl rfl id), opened]

theorem openingRun (i : SpoolNo) (burstOpen trip : Draft) (lookback : List Draft) (h : CursorLaw s) :
    CursorLaw (openingRun i burstOpen trip lookback s).1 := by
  rw [openingRun_eq]
  exact List.foldlRecOn _ _ ((h.beforeTrip i burstOpen).append i trip) fun _ k d _ => k.appendTo i d

theorem tryOpen (tr : Trip) (h : CursorLaw s) : CursorLaw (tryOpen tr s).1 := by
  unfold Machine.tryOpen
  dsimp only
  split
  exacts [(h.openingRun _ _ _ _).same rfl rfl, h.append _ _]

theorem burstTrip (tr : Trip) (h : CursorLaw s) : CursorLaw (burstTrip tr s).1 := by
  have phased : ∀ p, CursorLaw (s.setPhase p) := fun _ => h
  unfold Machine.burstTrip
  split
  · exact h.tryOpen tr
  · exact (phased _).append _ _
  · split
    exacts [(phased _).tryOpen tr, h.append _ _]

theorem closeBurst (reason : MarkReason) (askPin : Bool) (b : OpenBurst) (h : CursorLaw s) :
    CursorLaw (closeBurst reason askPin b s) := by
  refine (h.setSpool ?_).same rfl rfl
  split
  exacts [(Spool.KeepsPlaces.fill _ _).trans (.pinForBurst _ _), .fill _ _]

theorem endBurstEarly (reason : MarkReason) (h : CursorLaw s) : CursorLaw (endBurstEarly reason s) := by
  unfold Machine.endBurstEarly
  dsimp only
  split
  exacts [(h.closeBurst reason false _).same rfl rfl, h.same rfl rfl]

theorem abandonBurst (h : CursorLaw s) : CursorLaw (abandonBurst s) := by
  have dropped : ∀ i : SpoolNo, CursorLaw (s.setSpool i s.spools[i].abandonBurst) := fun i =>
    h.setSpool (.frame rfl rfl id)
  unfold Machine.abandonBurst
  dsimp only
  split
  exacts [(dropped _).same rfl rfl, h.same rfl rfl]

theorem endBurstForErase (i : SpoolNo) (h : CursorLaw s) : CursorLaw (endBurstForErase i s) := by
  have dropped : CursorLaw (s.setSpool i { s.spools[i] with reservation := false, burstSeg := false }) :=
    h.setSpool (.frame rfl rfl id)
  unfold Machine.endBurstForErase
  split
  · split
    exacts [dropped.same rfl rfl, h]
  · exact h

theorem deadline (h : CursorLaw s) : CursorLaw (deadline s) := by
  unfold Machine.deadline
  split
  · split
    exacts [(h.closeBurst _ _ _).same rfl rfl, h]
  · exact h

/-! ### Groups and lines -/

theorem tripGroup (g : GroupNo) (c : Change) (h : CursorLaw s) : CursorLaw (tripGroup g c s) := by
  have counted : ∀ gr, CursorLaw (s.setGroup g gr) := fun _ => h
  unfold Machine.tripGroup
  refine CursorLaw.same ?_ rfl rfl
  dsimp only
  split
  exacts [(counted _).append _ _, (counted _).burstTrip _]

theorem evaluateGroup (c : Change) (g : GroupNo) (h : CursorLaw s) : CursorLaw (evaluateGroup c g s) := by
  have stated : ∀ gr, CursorLaw (s.setGroup g gr) := fun _ => h
  unfold Machine.evaluateGroup
  dsimp only
  split
  · split
    · exact h
    · split
      exacts [h, h.tripGroup g c]
    · split
      exacts [(stated _).appendTo _ _, h.appendTo _ _]
    · split
      exacts [(stated _).appendTo _ _, h]
  · exact h

theorem logEdge (c : Change) (level : Bool) (h : CursorLaw s) : CursorLaw (logEdge c level s) := by
  unfold Machine.logEdge
  dsimp only
  split
  exacts [h.appendTo _ _, h]

theorem captureEdge (c : Change) (level : Bool) (h : CursorLaw s) : CursorLaw (captureEdge c level s) := by
  unfold Machine.captureEdge
  dsimp only
  split
  · split
    exacts [h.appendTo _ _, h]
  · exact h

theorem enterRing (c : Change) (level : Bool) (h : CursorLaw s) : CursorLaw (enterRing c level s) := by
  unfold Machine.enterRing
  split
  · exact h
  · split <;> exact h

theorem qualifiedChange (c : Change) (level : Bool) (h : CursorLaw s) : CursorLaw (qualifiedChange c level s) := by
  have levelled : CursorLaw (s.setLine c.line { s.lines[c.line] with qualified := level }) := h
  unfold Machine.qualifiedChange
  dsimp only
  split
  · exact List.foldlRecOn _ _ (((levelled.logEdge c level).captureEdge c level).enterRing c level)
      fun _ k g _ => k.evaluateGroup c g
  · exact levelled

theorem suppress (l : LineNo) (h : CursorLaw s) : CursorLaw (suppress l s) := by
  have quieted : ∀ ln, CursorLaw (s.setLine l ln) := fun _ => h
  unfold Machine.suppress
  dsimp only
  split
  exacts [((quieted _).appendTo _ _).same rfl rfl, quieted _]

theorem countExcursion (l : LineNo) (h : CursorLaw s) : CursorLaw (countExcursion l s) := by
  have counted : ∀ ln, CursorLaw (s.setLine l ln) := fun _ => h
  unfold Machine.countExcursion
  dsimp only
  split
  · exact h
  · split
    exacts [(counted _).suppress l, counted _]

theorem departure (l : LineNo) (h : CursorLaw s) : CursorLaw (departure l s) := by
  have locked : ∀ ln, CursorLaw (s.setLine l ln) := fun _ => h
  unfold Machine.departure
  dsimp only
  split
  · split
    exacts [h.qualifiedChange _ _, h]
  · split
    exacts [h.qualifiedChange _ _, (locked _).qualifiedChange _ _]

theorem rawChange (l : LineNo) (pin : Bool) (h : CursorLaw s) : CursorLaw (rawChange l pin s) := by
  have sampled : ∀ ln, CursorLaw (s.setLine l ln) := fun _ => h
  unfold Machine.rawChange
  split
  · exact h
  · dsimp only
    split
    · exact h
    · exact (sampled _).departure l
    · exact (sampled _).countExcursion l
    · split
      exacts [(sampled _).countExcursion l, h]
    · exact h

theorem settlingExpiry (l : LineNo) (h : CursorLaw s) : CursorLaw (settlingExpiry l s) := by
  have settled : ∀ ln, CursorLaw (s.setLine l ln) := fun _ => h
  unfold Machine.settlingExpiry
  dsimp only
  split
  exacts [(settled _).qualifiedChange _ _, h]

theorem lockoutExpiry (l : LineNo) (h : CursorLaw s) : CursorLaw (lockoutExpiry l s) := by
  have unlocked : ∀ ln, CursorLaw (s.setLine l ln) := fun _ => h
  unfold Machine.lockoutExpiry
  dsimp only
  split
  · split
    exacts [h, (unlocked _).qualifiedChange _ _]
  · exact h

theorem releaseExpiry (l : LineNo) (h : CursorLaw s) : CursorLaw (releaseExpiry l s) := by
  have ended : ∀ d i ln, CursorLaw
      (if s.mode = .armed then Machine.appendTo i d (s.setLine l ln) else s.setLine l ln) := fun d i ln => by
    have released : CursorLaw (s.setLine l ln) := h
    split
    exacts [released.appendTo i d, released]
  unfold Machine.releaseExpiry
  dsimp only
  split
  · split
    exacts [ended _ _ _, (ended _ _ _).qualifiedChange _ _]
  · exact h

end CursorLaw
end Sys2Proof.Machine
end

section
/-! The cursor unit's law through the requests, the erase, the link and the resets, and so through every step. -/

namespace Sys2Proof.Machine

variable {s t : State}

/-! ### What becomes of a cursor -/

/-- The start of an erase laps a cursor exactly where it is open on the spool (R42). -/
theorem Cursor.lapForErase_eq (i : SpoolNo) (c : Cursor) : c.lapForErase i =
    if c.place?.map (·.1) = some i then { state := .lapped i, inFlight := none } else c := by
  unfold Cursor.lapForErase Cursor.place?
  cases c.state <;> simp

/-- A cursor open after the start of an erase was open there before, on another spool (R42). -/
theorem Cursor.place?_lapForErase {i j : SpoolNo} {c : Cursor} {p : Nat}
    (h : (c.lapForErase i).place? = some (j, p)) : c.place? = some (j, p) ∧ j ≠ i := by
  rw [Cursor.lapForErase_eq] at h
  split at h
  · exact nomatch h
  · next hc => exact ⟨h, fun e => hc (by rw [h, e]; rfl)⟩

/-- A cursor open after a link break was open on that spool before, and stands where it stood or at a held record (R157). -/
theorem Cursor.place?_atBreak {spools : Vector Spool 4} {c : Cursor} {i : SpoolNo} {p : Nat}
    (h : (c.atBreak spools).place? = some (i, p)) :
    ∃ q, c.place? = some (i, q) ∧ (p = q ∨ spools[i].holds p = true) := by
  have rewound : ∀ {j q mark}, (Cursor.rewind spools[j].holds j q mark).place? = some (i, p) →
      j = i ∧ (p = q ∨ spools[i].holds p = true) := by
    intro j q mark h
    cases mark with
    | none => cases h; exact ⟨rfl, .inl rfl⟩
    | some m =>
      dsimp only [Cursor.rewind] at h
      split at h
      · next hm => cases h; exact ⟨rfl, .inr hm⟩
      · exact nomatch h
  unfold Cursor.atBreak at h
  split at h
  · next j q hs =>
    obtain ⟨rfl, hp⟩ := rewound h
    exact ⟨q, by rw [Cursor.place?, hs], hp⟩
  · next j q n f hs =>
    obtain ⟨rfl, hp⟩ := rewound h
    exact ⟨q, by rw [Cursor.place?, hs], hp⟩
  · exact ⟨p, h, .inl rfl⟩

/-- A stream that ends or goes on at one position is open there. -/
theorem Cursor.place?_ended_or_streaming (ended : Bool) (i : SpoolNo) (p : Nat) (left : Option Nat) (follow : Bool)
    (mark : Option Nat) : Cursor.place?
      { state := if ended then .positioned i p else .streaming i p left follow, inFlight := mark } = some (i, p) := by
  cases ended <;> rfl

/-- The stream whose frame is built ends or goes on at a place of its spool (R151, R152). -/
theorem buildFrame_place {c : CursorNo} {fc : Frame × Cursor} {j : SpoolNo} {q : Nat}
    (h : buildFrame c s = some fc) (hq : fc.2.place? = some (j, q)) :
    ∃ pos, s.cursors[c].place? = some (j, pos) ∧ s.spools[j].HasPlace q := by
  unfold buildFrame at h
  dsimp only at h
  split at h
  · next i pos _ _ hs =>
    cases h
    cases (Cursor.place?_ended_or_streaming _ _ _ _ _ _).symm.trans hq
    exact ⟨pos, by rw [Cursor.place?, hs], Spool.hasPlace_positionAt _ _⟩
  · exact nomatch h

/-- A state none of whose cursors is open meets the law. -/
theorem CursorLaw.of_closed (h : ∀ c : CursorNo, t.cursors[c].place? = none) : CursorLaw t := by
  intro c i p hp
  rw [h c] at hp
  exact nomatch hp

theorem CursorLaw.setCursor {c : CursorNo} {cu : Cursor} (h : CursorLaw s)
    (k : ∀ i p, cu.place? = some (i, p) → s.spools[i].HasPlace p ∧ s.spools[i].erasing = none) :
    CursorLaw (s.setCursor c cu) := by
  intro c' i p hp
  rw [State.setCursor_cursors, Vector_set_get] at hp
  split at hp
  exacts [k i p hp, h c' i p hp]

theorem CursorLaw.moveCursor {i : SpoolNo} {pos : Nat} (c : CursorNo) (h : CursorLaw s)
    (hp : s.spools[i].HasPlace pos) (he : s.spools[i].erasing = none) : CursorLaw (moveCursor c i pos s) :=
  h.setCursor fun j p k => by
    cases k
    exact ⟨hp, he⟩

/-! ### The taking of a request -/

theorem CursorLaw.awake {f : State → State} (h : CursorLaw s) (hf : CursorLaw (f s)) : CursorLaw (awake f s) := by
  unfold Machine.awake
  split
  exacts [h, hf]

theorem CursorLaw.serve {row : Instr} {f : List Byte → State → State × Reply} (h : CursorLaw s)
    (hf : ∀ p u, CursorLaw u → CursorLaw (f p u).1) : CursorLaw (serve row f s) := by
  obtain ⟨r, rest, -, -, e⟩ | ⟨-, e⟩ := serve_cases row f s <;> rw [e]
  · exact (hf r.payload (s.setLink { s.link with intake := rest }) (h.same rfl rfl)).same rfl rfl
  · exact h

theorem CursorLaw.ite {c : Prop} [Decidable c] (h : CursorLaw s) (k : CursorLaw t) :
    CursorLaw (if c then s else t) := by
  split
  exacts [h, k]

theorem CursorLaw.ite_request {c : Prop} [Decidable c] {r r' : State × Reply} (h : CursorLaw r.1)
    (k : CursorLaw r'.1) : CursorLaw (if c then r else r').1 := by
  split
  exacts [h, k]

theorem CursorLaw.withFields {α : Type} {fields : Option α} {k : α → State → State × Reply} (h : CursorLaw s)
    (hk : ∀ a, CursorLaw (k a s).1) : CursorLaw (withFields fields k s).1 := by
  cases fields
  exacts [h, hk _]

theorem CursorLaw.inSetup {k : State → State × Reply} (h : CursorLaw s) (hk : CursorLaw (k s).1) :
    CursorLaw (inSetup k s).1 := ite_request hk h

/-- A request on a POSITIONED cursor finds it at a place of a spool that is not being erased (R139, R147). -/
theorem CursorLaw.onCursor {c : CursorNo} {body : Position → Body} {k : SpoolNo → Nat → State → State × Reply}
    (h : CursorLaw s) (hk : ∀ i pos, s.spools[i].HasPlace pos → s.spools[i].erasing = none → CursorLaw (k i pos s).1) :
    CursorLaw (onCursor c body k s).1 := by
  unfold Machine.onCursor
  dsimp only
  split
  · exact h
  · exact ite_request h (ite_request h h)
  · next i _ =>
    refine ite_request h ?_
    split
    · exact h
    · next he =>
      refine h.setCursor fun j p e => ?_
      cases e
      exact ⟨Spool.hasPlace_positionAt _ _, by simpa using he⟩
  · next i pos hs =>
    obtain ⟨place, idle⟩ := h c i pos (by rw [Cursor.place?, hs])
    exact ite_request h (ite_request h (hk i pos place idle))

namespace CursorLaw

variable (p : List Byte)

/-! ### Requests of the cursor unit -/

theorem openCursorRequest (h : CursorLaw s) : CursorLaw (openCursorRequest p s).1 :=
  h.withFields fun f => by
    have ended : CursorLaw (endStream f.1 .closed s) := by
      unfold endStream
      split <;> exact h
    have store := SameStore.endStream f.1 .closed s
    refine ite_request h ?_
    split
    · exact h
    · next he =>
      split
      · exact h
      · next pos hpos =>
        refine ended.setCursor fun j q e => ?_
        cases e
        rw [store.spools]
        exact ⟨hasPlace_startPosition hpos, by simpa using he⟩

theorem closeCursorRequest (h : CursorLaw s) : CursorLaw (closeCursorRequest p s).1 :=
  h.withFields fun c => by
    have ended : CursorLaw (endStream c .closed s) := by
      unfold endStream
      split <;> exact h
    split
    · exact h
    · exact ended.setCursor nofun

theorem readRequest (h : CursorLaw s) : CursorLaw (readRequest p s).1 :=
  h.withFields fun f => h.onCursor fun _ _ _ he =>
    ite_request h (h.moveCursor f.1 (Spool.hasPlace_positionAt _ _) he)

theorem spaceRequest (h : CursorLaw s) : CursorLaw (spaceRequest p s).1 :=
  h.withFields fun f => h.onCursor fun _ _ _ he => h.moveCursor f.1 (Spool.hasPlace_positionAt _ _) he

theorem skipRequest (h : CursorLaw s) : CursorLaw (skipRequest p s).1 :=
  h.withFields fun f => h.onCursor fun _ _ _ he => h.moveCursor f.1 (Spool.hasPlace_skipTarget _ _ _) he

theorem streamRequest (h : CursorLaw s) : CursorLaw (streamRequest p s).1 :=
  h.withFields fun f => h.onCursor fun i pos hp he => h.setCursor fun j q e => by
    cases e
    exact ⟨hp, he⟩

theorem stopStreamRequest (h : CursorLaw s) : CursorLaw (stopStreamRequest p s).1 :=
  h.withFields fun c => by
    split
    · exact h
    · next i pos n f hs =>
      obtain ⟨place, idle⟩ := h c i pos (by rw [Cursor.place?, hs])
      exact (CursorLaw.same h rfl rfl).moveCursor (s := pushFrame (.streamEnd c .stopped) s) c place idle
    · exact h

theorem listSegmentsRequest (h : CursorLaw s) : CursorLaw (listSegmentsRequest p s).1 :=
  h.withFields fun _ => ite_request h (ite_request h h)

/-! ### Modes, time and references -/

theorem recordMode (m : Mode) (cause : ModeCause) (h : CursorLaw s) : CursorLaw (recordMode m cause s) :=
  h.appendToAll _

theorem armRequest (h : CursorLaw s) : CursorLaw (armRequest p s).1 := by
  have settled : CursorLaw (standGroups (armLines (s.setMode .armed))) := h.same rfl rfl
  have armed : CursorLaw (Machine.recording armRecorder s) := recording (settled.recordMode .armed .arm)
  refine h.inSetup ?_
  split
  exacts [h, armed]

theorem holdRequest (h : CursorLaw s) : CursorLaw (holdRequest p s).1 := by
  have ended : CursorLaw ((Machine.endBurstEarly .held s).setMode .hold) := (h.endBurstEarly .held).same rfl rfl
  have held : CursorLaw (Machine.recording holdRecorder s) := recording (ended.recordMode .hold .hold)
  exact ite_request held h

theorem resumeRequest (h : CursorLaw s) : CursorLaw (resumeRequest p s).1 := by
  have stood : CursorLaw (standGroups (s.setMode .armed)) := h.same rfl rfl
  have resumed : CursorLaw (Machine.recording resumeRecorder s) := recording (stood.recordMode .armed .resume)
  exact ite_request resumed h

theorem disarmRequest (h : CursorLaw s) : CursorLaw (disarmRequest p s).1 := by
  have ended : CursorLaw (groupsOff (disarmLines ((Machine.endBurstEarly .disarmed s).setMode .setup))) :=
    (h.endBurstEarly .disarmed).same rfl rfl
  have disarmed : CursorLaw (Machine.recording disarmRecorder s) := recording (ended.recordMode .setup .disarm)
  exact ite_request h disarmed

/-- A soft RESET closes every cursor (R129). -/
theorem resetRequest : CursorLaw (resetRequest p s).1 := of_closed fun c => by
  show (Vector.replicate 4 ({ state := .closed, inFlight := none } : Cursor))[c].place? = none
  simp [Cursor.place?]

theorem setTimeRequest (h : CursorLaw s) : CursorLaw (setTimeRequest p s).1 := by
  have stepped : CursorLaw (s.setTime (field p 1 6)) := h
  exact recording (f := stepTime (field p 1 6)) (ite (stepped.appendToAll _) stepped)

theorem setReferenceRequest (h : CursorLaw s) : CursorLaw (setReferenceRequest p s).1 :=
  h.withFields fun f => by
    have stored : CursorLaw (storeReference f.1 f.2 s) := h
    have stood : ∀ gr, CursorLaw ((storeReference f.1 f.2 s).setGroup f.1 gr) := fun _ => h
    exact ite_request (((stood _).appendTo _ _).closeEvent _) stored

/-! ### The store's requests and the erase -/

theorem setSpoolRequest (h : CursorLaw s) : CursorLaw (setSpoolRequest p s).1 := by
  obtain e | ⟨i, capacity, policy, threshold, -, -, e⟩ := setSpoolRequest_cases p s <;> rw [e]
  · exact h
  · rw [storeSpool_frame]
    exact (h.setSpool (i := i) (sp := s.spools[i].configured capacity policy threshold) (.frame rfl rfl id)).same rfl rfl

theorem cutRequest (h : CursorLaw s) : CursorLaw (cutRequest p s).1 :=
  h.withFields fun i => by
    refine ite_request h (ite_request h (ite_request h ?_))
    split
    · exact h
    · exact ite_request h ((h.append i _).closeEvent s)

theorem releaseRequest (h : CursorLaw s) : CursorLaw (releaseRequest p s).1 :=
  h.withFields fun _ => ite_request h (ite_request h
    (recording (h.lapped (.removeOldest _ _))))

theorem pinRequest (h : CursorLaw s) : CursorLaw (pinRequest p s).1 :=
  h.withFields fun _ => ite_request h (ite_request h (ite_request h (ite_request h (ite_request h
    (h.setSpool (.frame rfl rfl id))))))

theorem unpinRequest (h : CursorLaw s) : CursorLaw (unpinRequest p s).1 :=
  h.withFields fun _ => ite_request h (ite_request h (h.setSpool (.frame rfl rfl id)))

/-- The start of an erase leaves no cursor open on its spool (R42). -/
theorem startErase (i : SpoolNo) (h : CursorLaw s) : CursorLaw (startErase i s) := by
  refine CursorLaw.endBurstForErase i fun c j p hp => ?_
  rw [State.setCursors_cursors, mapV_get] at hp
  obtain ⟨hp, hj⟩ := Cursor.place?_lapForErase hp
  rw [State.setCursors_spools, setSpool_spool, if_neg hj.symm]
  exact h c j p hp

theorem takeErase (h : CursorLaw s) : CursorLaw (takeErase s) := by
  unfold Machine.takeErase
  split
  · next r rest _ =>
    have taken : CursorLaw (s.setLink { s.link with intake := rest }) := h
    split
    · dsimp only
      split
      · next i _ _ => exact (recording (taken.startErase i)).same rfl rfl
      · exact h
    · exact h
  · exact h

/-- No cursor is open on a spool whose erase completes (R42, R46). -/
theorem completeErase (i : SpoolNo) (h : CursorLaw s) : CursorLaw (completeErase i s) := by
  unfold Machine.completeErase
  dsimp only
  split
  · exact h
  · next n hn =>
    have finished : CursorLaw (s.setSpool i s.spools[i].finishErase) := by
      intro c j p hp
      obtain ⟨place, idle⟩ := h c j p hp
      have other : i ≠ j := by
        rintro rfl
        exact nomatch hn.symm.trans idle
      rw [setSpool_spool, if_neg other]
      exact ⟨place, idle⟩
    split
    exacts [finished.same rfl rfl, finished]

theorem getCountersRequest (h : CursorLaw s) : CursorLaw (getCountersRequest p s).1 :=
  h.withFields fun clear => by
    cases clear
    · exact h
    · refine CursorLaw.keepsPlaces h rfl fun i => ?_
      show Spool.KeepsPlaces _ [] (mapV _ s.spools)[i]
      rw [mapV_get]
      exact .frame rfl rfl id

/-! ### The link -/

theorem makeRefusal (tag : Byte) (code : Option Byte) (st : Status) (h : CursorLaw s) :
    CursorLaw (makeRefusal tag code st s) := ite h h

theorem frameArrival (low : Byte) (h : CursorLaw s) : CursorLaw (frameArrival low s) := by
  have received : CursorLaw (s.setRx .hunt) := h
  have handed : ∀ body, CursorLaw (handOn body (s.setRx .hunt)) := fun body => by
    unfold handOn
    split
    · exact ite (ite (received.makeRefusal _ _ _) (ite (received.makeRefusal _ _ _) h)) (received.makeRefusal _ _ _)
    · exact h
  unfold Machine.frameArrival
  split
  · exact ite (handed _) h
  · exact h

/-- A cursor that a link break leaves open stands at a place of its spool (R157). -/
theorem breakCursors (h : CursorLaw s) : CursorLaw (breakCursors s) := by
  intro c i p hp
  rw [Machine.breakCursors, State.setCursors_cursors, mapV_get] at hp
  obtain ⟨q, hq, rfl | held⟩ := Cursor.place?_atBreak hp
  · exact h c i p hq
  · exact ⟨.inl held, (h c i q hq).2⟩

theorem linkBreak (h : CursorLaw s) : CursorLaw (linkBreak s) := by
  have broken : CursorLaw (breakLink (countFault breaks s)) := h
  exact ite h (broken.breakCursors.same rfl rfl)

theorem sendStream (c : CursorNo) (h : CursorLaw s) : CursorLaw (sendStream c s) := by
  unfold Machine.sendStream
  split
  · next fc hf =>
    refine CursorLaw.same (h.setCursor (c := c) (cu := fc.2) fun j q hq => ?_) rfl rfl
    obtain ⟨pos, opened, place⟩ := buildFrame_place hf hq
    exact ⟨place, (h c j pos opened).2⟩
  · exact h

theorem arbiterChoice (h : CursorLaw s) : CursorLaw (arbiterChoice s) := by
  unfold Machine.arbiterChoice
  split
  · exact h
  · split
    · exact h
    · split
      · next n _ =>
        unfold sendNote
        split <;> exact h
      · split
        exacts [h.sendStream _, h]

theorem completeTransmission (h : CursorLaw s) : CursorLaw (completeTransmission s) := by
  have told : ∀ f u, CursorLaw u → CursorLaw (tellOwner f u) := fun f u k => by
    unfold tellOwner
    split
    case h_3 c _ _ => exact k.setCursor fun i p hp => k c i p hp
    all_goals exact k
  unfold Machine.completeTransmission
  split
  · exact ite (told _ (s.setLink { s.link with path := none }) h) h
  · exact h

/-! ### Elapsed time and RSTn -/

theorem elapse (n : Nat) (h : CursorLaw s) : CursorLaw (elapse n s) := CursorLaw.keepsPlaces h rfl fun i => by
  show Spool.KeepsPlaces _ [] (mapV _ s.spools)[i]
  rw [mapV_get]
  exact .frame rfl rfl fun e => by rw [Spool.elapse, e]; rfl

theorem rstnLow (h : CursorLaw s) : CursorLaw (rstnLow s) := CursorLaw.keepsPlaces h rfl fun i => by
  show Spool.KeepsPlaces _ [] (mapV _ s.spools)[i]
  rw [mapV_get]
  exact .frame rfl rfl fun _ => rfl

theorem pinReset (pins : LineSet) (spd1 spd0 : Bool) : CursorLaw (pinReset pins spd1 spd0 s) := of_closed fun c => by
  show (Vector.replicate 4 ({ state := .closed, inFlight := none } : Cursor))[c].place? = none
  simp [Cursor.place?]

/-! ### Every command -/

theorem exec {c : Instr} (h : CursorLaw s) (e : exec c s = .next t) : CursorLaw t := by
  have rest : ∀ {row} {f : List Byte → State → State × Reply}, (∀ p u, CursorLaw u → CursorLaw (f p u).1) →
      CursorLaw (Machine.awake (Machine.serve row f) s) := fun hf => h.awake (h.serve hf)
  cases c with
  | arm => exact next_eq e ▸ rest fun p _ => armRequest p
  | hold => exact next_eq e ▸ rest fun p _ => holdRequest p
  | resume => exact next_eq e ▸ rest fun p _ => resumeRequest p
  | disarm => exact next_eq e ▸ rest fun p _ => disarmRequest p
  | reset => exact next_eq e ▸ rest fun p _ _ => resetRequest p
  | setLine => exact next_eq e ▸ rest fun p _ k => k.withFields fun _ => k.inSetup k
  | setChatter => exact next_eq e ▸ rest fun p _ k => k.withFields fun _ => k.inSetup k
  | setGroup => exact next_eq e ▸ rest fun p _ k => k.withFields fun _ => k.inSetup k
  | setReference => exact next_eq e ▸ rest fun p _ => setReferenceRequest p
  | setSpool => exact next_eq e ▸ rest fun p _ => setSpoolRequest p
  | setBurst => exact next_eq e ▸ rest fun p _ k => k.withFields fun _ => k.inSetup k
  | setNote => exact next_eq e ▸ rest fun p _ k => k.withFields fun _ => k
  | setTime => exact next_eq e ▸ rest fun p _ => setTimeRequest p
  | getTime => exact next_eq e ▸ rest fun _ _ => id
  | cut => exact next_eq e ▸ rest fun p _ => cutRequest p
  | release => exact next_eq e ▸ rest fun p _ => releaseRequest p
  | pin => exact next_eq e ▸ rest fun p _ => pinRequest p
  | unpin => exact next_eq e ▸ rest fun p _ => unpinRequest p
  | erase => exact next_eq e ▸ h.awake h.takeErase
  | getSpool => exact next_eq e ▸ rest fun p _ k => k.withFields fun _ => k
  | openCursor => exact next_eq e ▸ rest fun p _ => openCursorRequest p
  | closeCursor => exact next_eq e ▸ rest fun p _ => closeCursorRequest p
  | read => exact next_eq e ▸ rest fun p _ => readRequest p
  | space => exact next_eq e ▸ rest fun p _ => spaceRequest p
  | skip => exact next_eq e ▸ rest fun p _ => skipRequest p
  | stream => exact next_eq e ▸ rest fun p _ => streamRequest p
  | stopStream => exact next_eq e ▸ rest fun p _ => stopStreamRequest p
  | listSegments => exact next_eq e ▸ rest fun p _ => listSegmentsRequest p
  | credit => exact next_eq e ▸ rest fun p _ k => k.withFields fun _ => k
  | ackNote => exact next_eq e ▸ rest fun p _ k => k.withFields fun _ => ite_request k k
  | getStatus => exact next_eq e ▸ rest fun _ _ => id
  | getCounters => exact next_eq e ▸ rest fun p _ => getCountersRequest p
  | identify => exact next_eq e ▸ rest fun _ _ => id
  | badRequestTaken => exact next_eq e ▸ rest fun _ _ => id
  | rawChange l pin => exact next_eq e ▸ h.awake (recording (h.rawChange l pin))
  | settlingTimerExpiry l => exact next_eq e ▸ h.awake (recording (h.settlingExpiry l))
  | lockoutExpiry l => exact next_eq e ▸ h.awake (recording (h.lockoutExpiry l))
  | chatterWindowExpiry l => exact next_eq e ▸ h.awake (ite h h)
  | releaseTimerExpiry l => exact next_eq e ▸ h.awake (recording (h.releaseExpiry l))
  | deadlineExpiry => exact next_eq e ▸ h.awake (recording h.deadline)
  | cooldownExpiry =>
    refine next_eq e ▸ h.awake ?_
    unfold cooldownEnd
    split
    exacts [ite h h, h]
  | acknowledgeTimerExpiry n => exact next_eq e ▸ h.awake (ite h h)
  | gapTimeout => exact next_eq e ▸ h.awake (ite h h)
  | eraseCompletion i => exact next_eq e ▸ h.awake (h.completeErase i)
  | frameArrival b => exact next_eq e ▸ h.awake (h.frameArrival b)
  | lengthFault b =>
    refine next_eq e ▸ h.awake ?_
    unfold lengthFault
    split
    exacts [ite h h, h]
  | characterError low =>
    refine next_eq e ▸ h.awake ?_
    unfold characterError
    dsimp only
    split <;> exact h
  | linkBreak => exact next_eq e ▸ h.awake h.linkBreak
  | arbiterChoice => exact next_eq e ▸ h.awake h.arbiterChoice
  | transmissionCompletion => exact next_eq e ▸ h.awake h.completeTransmission
  | rstnLow => exact next_eq e ▸ h.rstnLow
  | pinReset pins spd1 spd0 => exact next_eq e ▸ pinReset pins spd1 spd0
  | powerOn pins spd1 spd0 => exact next_eq e ▸ pinReset pins spd1 spd0
  | characterReceived b => exact next_eq e ▸ h.awake h
  | receiveLineReturnsHigh =>
    refine next_eq e ▸ h.awake ?_
    unfold lineHigh
    split <;> exact h

end CursorLaw

/-- Settles O60: what leaves a spool is handed to the cursor unit, and cursors move to places alone. -/
theorem stepKeepsCursorLaw : Obligations.StepKeepsCursorLaw := by
  intro s t _ h e
  obtain ⟨c, p, e⟩ | rfl | rfl := step_cases e
  · have queued : CursorLaw { s with pending := p } := h
    exact queued.exec e
  · exact h
  · exact h.elapse 1

end Sys2Proof.Machine
end

section
/-! RELEASE (R29 to R31). -/

namespace Sys2Proof.Machine

/-! ### The records that go -/

theorem drop_length_takeWhile {α : Type} (p : α → Bool) (l : List α) :
    l.drop (l.takeWhile p).length = l.dropWhile p :=
  (congrArg (List.drop _) List.takeWhile_append_dropWhile.symm).trans List.drop_left

/-- Every record a RELEASE removes is numbered `n` or less and lies in no pinned segment (R30). -/
theorem Spool.releasable_of_mem {sp : Spool} {n : Nat} {r : Record} (h : r ∈ sp.held.take (sp.releaseCount n)) :
    r.seq ≤ n ∧ r.seg ∉ sp.pins := by
  rw [Spool.releaseCount, ← List.prefix_iff_eq_take.1 (List.takeWhile_prefix _)] at h
  simpa using List.mem_takeWhile_imp h

/-- A RELEASE stops at the first record numbered above `n` or in a pinned segment (R30). -/
theorem Spool.release_stops {sp : Spool} {n : Nat} {r : Record} (h : sp.held[sp.releaseCount n]? = some r) :
    n < r.seq ∨ r.seg ∈ sp.pins := by
  rw [← List.head?_drop, Spool.releaseCount, drop_length_takeWhile] at h
  have stop := List.head?_dropWhile_not (fun r => decide (r.seq ≤ n) && !sp.pins.contains r.seg) sp.held
  rw [h] at stop
  by_cases hn : r.seq ≤ n
  · exact .inr (by simpa [hn] using stop)
  · exact .inl (Nat.lt_of_not_le hn)

theorem Spool.releaseCount_le (sp : Spool) (n : Nat) : sp.releaseCount n ≤ sp.held.length :=
  (List.takeWhile_prefix _).length_le

/-- The removal of records outside pinned segments leaves the pins (R32). -/
theorem Spool.removeOldest_unpinned {sp : Spool} {n : Nat} (h : ∀ r ∈ sp.held.take n, r.seg ∉ sp.pins) :
    sp.removeOldest n = { sp with held := sp.held.drop n } := by
  have pins : (sp.removeOldest n).pins = sp.pins :=
    List.filter_eq_self.2 fun p hp => by
      have unpinned : ∀ r ∈ sp.held.take n, r.seg ≠ p := fun r hr e => h r hr (e ▸ hp)
      simp only [Bool.or_eq_true, Bool.not_eq_true', List.any_eq_false, beq_iff_eq]
      exact .inr unpinned
  rw [removeOldest_frame, pins]

/-- The segment whose pin stopped a RELEASE is that of the new oldest record, where its number would let it go (R30). -/
theorem stoppingSegment_eq (sp : Spool) (n : Nat) :
    stoppingSegment sp n = (sp.held.head?.filter fun r => decide (r.seq ≤ n)).map (·.seg) := by
  unfold stoppingSegment
  cases sp.held.head? with
  | none => rfl
  | some r => by_cases h : r.seq ≤ n <;> simp [Option.filter, h]

theorem Spool.atEventEnd_held (sp0 sp : Spool) : (Spool.atEventEnd sp0 sp).held = sp.held := by
  unfold Spool.atEventEnd
  split <;> rfl

/-! ### The event -/

theorem releaseSpool_spool (i j : SpoolNo) (n : Nat) (s : State) : (releaseSpool i n s).spools[j] =
    if i = j then { s.spools[i] with held := s.spools[i].held.drop (s.spools[i].releaseCount n) }
    else s.spools[j] := by
  refine (setSpool_spool i j _ s).trans ?_
  rw [Spool.removeOldest_unpinned fun r hr => (Spool.releasable_of_mem hr).2]

theorem releaseSpool_effects (i : SpoolNo) (n : Nat) (s : State) : MidEffects [] s (releaseSpool i n s) :=
  (setSpool_effects i _ s).trans (lapCursors_effects i _ _)

theorem releaseSpool_storeOnly (i : SpoolNo) (n : Nat) (s : State) : StoreOnly s (releaseSpool i n s) :=
  ⟨rfl, rfl, rfl, rfl, rfl⟩

/-- The spools at the end of a release (R24, R30). -/
theorem closeEvent_release_spool (i j : SpoolNo) (n : Nat) (s : State) :
    (closeEvent s (releaseSpool i n s)).spools[j] = if i = j then
      Spool.atEventEnd s.spools[i]
        { s.spools[i] with held := s.spools[i].held.drop (s.spools[i].releaseCount n) }
      else s.spools[j] := by
  rw [closeEvent_spool, releaseSpool_spool]
  split
  · next e => subst e; rfl
  · exact Spool.atEventEnd_self _

theorem closeEvent_release_effects (i : SpoolNo) (n : Nat) (s : State) :
    SideEffects [nearFullClass] s (closeEvent s (releaseSpool i n s)) :=
  closeEvent_effects (releaseSpool_effects i n s) fun j => by
    rw [releaseSpool_spool]
    split
    · next e => subst e; rfl
    · rfl

/-- A RELEASE payload gives back its fields (R29, R214). -/
theorem decodeRelease_payload (i : SpoolNo) {n : Nat} (hn : n ≤ max48) :
    decodeRelease (Payload.release i n) = some (i, n) := by
  have spool : below 4 (byteAt (Payload.release i n) 1) = some i := below_eq_some.2 (byte_spool_toNat i)
  have last : field (Payload.release i n) 2 6 = n := by
    have := field_append [0x31, byte i.val] [] 6 n (Nat.lt_of_le_of_lt hn (by decide))
    rwa [List.append_nil] at this
  rw [decodeRelease, spool, last]
  rfl

/-- What a RELEASE of an enabled spool that is not ERASING answers (R30). -/
theorem releaseRequest_carried {i : SpoolNo} {n : Nat} {s : State} (hn : n ≤ max48)
    (hc : s.spools[i].enabled = true) (hx : s.spools[i].erasing = none) :
    releaseRequest (Payload.release i n) s = (closeEvent s (releaseSpool i n s),
      ⟨.ok, .release (s.spools[i].releaseCount n)
        ((s.spools[i].held.drop (s.spools[i].releaseCount n)).head?.map (·.seq))
        ((s.spools[i].held[s.spools[i].releaseCount n]?.filter fun r => decide (r.seq ≤ n)).map (·.seg))⟩) := by
  have oldest : (closeEvent s (releaseSpool i n s)).spools[i].held
      = s.spools[i].held.drop (s.spools[i].releaseCount n) := by
    rw [closeEvent_release_spool, if_pos rfl, Spool.atEventEnd_held]
  rw [releaseRequest, decodeRelease_payload i hn, withFields_some]
  dsimp only
  rw [if_neg (by rw [hc]; exact nofun), if_neg (by rw [hx]; exact nofun), recording, stoppingSegment_eq, oldest,
    List.head?_drop]

/-- Settles O23: the run is the longest at the front that satisfies both conditions, so what it leaves fails one. -/
theorem releaseRemovesRun : Obligations.ReleaseRemovesRun := by
  intro s tag rest i n hs hn hi hc hx
  have taken := awake_serve (f := releaseRequest) hs hi rfl
  have carried := releaseRequest_carried (s := s.taking rest) hn hc hx
  change awake _ s = makeReady tag _ (releaseRequest (Payload.release i n) (s.taking rest)).2
    (releaseRequest (Payload.release i n) (s.taking rest)).1 at taken
  rw [carried] at taken
  refine ⟨_, s.spools[i].releaseCount n, congrArg Host.Outcome.next taken, ?_, Spool.releaseCount_le _ n,
    fun r hr => Spool.releasable_of_mem hr, fun r hr => Spool.release_stops hr, ?_, fun j hj => ?_, fun c => ?_,
    requestEffects_of_sideEffects (closeEvent_release_effects i n _) fun _ _ _ h => nomatch h⟩
  · exact ((setLink_storeOnly _ s).trans ((releaseSpool_storeOnly i n _).trans
      (closeEvent_storeOnly (s.taking rest) _))).trans (setLink_storeOnly _ _)
  · exact (closeEvent_release_spool i i n _).trans (if_pos rfl)
  · exact (closeEvent_release_spool i j n _).trans (if_neg hj.symm)
  · show (closeEvent (s.taking rest) (releaseSpool i n (s.taking rest))).cursors[c] = _
    rw [closeEvent_cursors]
    exact (lapCursors_cursor i _ _ c).trans (Cursor.lap_eq i _ _)

end Sys2Proof.Machine
end

section
/-! PIN and UNPIN (R33, R34). -/

namespace Sys2Proof.Machine

theorem insertPin_perm {s : Nat} {ps : List Nat} (h : s ∉ ps) : (insertPin s ps).Perm (s :: ps) := by
  induction ps with
  | nil => exact .refl _
  | cons q qs ih =>
    rw [List.mem_cons, not_or] at h
    unfold insertPin
    split
    · exact .refl _
    · rw [if_neg h.1]
      exact ((ih h.2).cons q).trans (.swap s q qs)

/-- The fields of a PIN or an UNPIN (R33, R34, R214). -/
theorem decodePin_fields (code n : Byte) {seg : Nat} (h : seg ≤ max32) :
    decodePin ([code, n] ++ leBytes 4 seg) = (below 4 n.toNat).map fun i => (i, seg) := by
  have last : field ([code, n] ++ leBytes 4 seg) 2 4 = seg := by
    simpa using field_append [code, n] [] 4 seg (Nat.lt_of_le_of_lt h (by decide))
  have spool : byteAt ([code, n] ++ leBytes 4 seg) 1 = n.toNat := rfl
  rw [decodePin, spool, last]
  cases below 4 n.toNat <;> rfl

theorem decodePin_payload (code : Byte) (i : SpoolNo) {seg : Nat} (h : seg ≤ max32) :
    decodePin (Payload.pin code i seg) = some (i, seg) := by
  rw [Payload.pin, decodePin_fields code _ h, below_eq_some.2 (byte_spool_toNat i)]
  rfl

theorem decodePin_noSpool (code : Byte) {n : Byte} {seg : Nat} (h : seg ≤ max32) (hn : 3 < n.toNat) :
    decodePin ([code, n] ++ leBytes 4 seg) = none := by
  rw [decodePin_fields code n h, below, dif_neg (by omega)]
  rfl

theorem pinRequest_noFields {p : List Byte} {s : State} (h : decodePin p = none) :
    pinRequest p s = (s, ⟨.badArgument, .empty⟩) := by
  rw [pinRequest, h, withFields_none]

theorem unpinRequest_noFields {p : List Byte} {s : State} (h : decodePin p = none) :
    unpinRequest p s = (s, ⟨.badArgument, .empty⟩) := by
  rw [unpinRequest, h, withFields_none]

/-- A PIN taken, its fields read (R33). -/
theorem pinRequest_taking {s : State} {rest : List Request} {i : SpoolNo} {seg : Nat} (h : seg ≤ max32) :
    pinRequest (Payload.pin 0x32 i seg) (s.taking rest) =
      if s.spools[i].enabled = false then refuse .spoolDisabled (s.taking rest)
      else if s.spools[i].erasing.isSome then refuse .spoolBusy (s.taking rest)
      else if s.spools[i].held.all (fun r => r.seg != seg) then
        (s.taking rest, ⟨.noSuchSegment, .pins s.spools[i].pins.length⟩)
      else if seg ∈ s.spools[i].pins then (s.taking rest, ⟨.ok, .pin true s.spools[i].pins.length⟩)
      else if 4 ≤ s.spools[i].pins.length then
        (s.taking rest, ⟨.pinTableFull, .pins s.spools[i].pins.length⟩)
      else ((s.taking rest).setSpool i { s.spools[i] with pins := insertPin seg s.spools[i].pins },
        ⟨.ok, .pin false (s.spools[i].pins.length + 1)⟩) := by
  rw [pinRequest, decodePin_payload 0x32 i h]
  rfl

/-- A PIN taken for an enabled spool that is not ERASING (R33). -/
theorem pinRequest_accepted {s : State} {rest : List Request} {i : SpoolNo} {seg : Nat} (h : seg ≤ max32)
    (hc : s.spools[i].capacity ≠ 0) (hx : s.spools[i].erasing = none) :
    pinRequest (Payload.pin 0x32 i seg) (s.taking rest) =
      if s.spools[i].held.all (fun r => r.seg != seg) then
        (s.taking rest, ⟨.noSuchSegment, .pins s.spools[i].pins.length⟩)
      else if seg ∈ s.spools[i].pins then (s.taking rest, ⟨.ok, .pin true s.spools[i].pins.length⟩)
      else if 4 ≤ s.spools[i].pins.length then
        (s.taking rest, ⟨.pinTableFull, .pins s.spools[i].pins.length⟩)
      else ((s.taking rest).setSpool i { s.spools[i] with pins := insertPin seg s.spools[i].pins },
        ⟨.ok, .pin false (s.spools[i].pins.length + 1)⟩) := by
  rw [pinRequest_taking h, if_neg (mt Spool.disabled_iff.1 hc), if_neg (by rw [hx]; exact nofun)]

/-- An UNPIN taken, its fields read (R34). -/
theorem unpinRequest_taking {s : State} {rest : List Request} {i : SpoolNo} {seg : Nat} (h : seg ≤ max32) :
    unpinRequest (Payload.pin 0x33 i seg) (s.taking rest) =
      if s.spools[i].enabled = false then refuse .spoolDisabled (s.taking rest)
      else if seg ∉ s.spools[i].pins then refuse .notPinned (s.taking rest)
      else ((s.taking rest).setSpool i { s.spools[i] with pins := s.spools[i].pins.filter (· != seg) },
        ⟨.ok, .pins (s.spools[i].pins.filter (· != seg)).length⟩) := by
  rw [unpinRequest, decodePin_payload 0x33 i h]
  rfl

/-- Settles O24: the outcomes are the branches of the two requests, in their order. -/
theorem pinTableChanged : Obligations.PinTableChanged := by
  intro s tag rest i seg hs hseg
  refine ⟨fun n hn => ⟨fun hi => ?_, fun hi => ?_⟩, fun hi hc => ?_, fun hi hc => ?_, fun hi hc hx => ?_,
    fun hi hc hx => ⟨fun hnone => ?_, fun ⟨r, hr, hsegr⟩ => ?_⟩, fun hi hc => ⟨fun hp => ?_, fun hp => ?_⟩⟩
  · exact congrArg Host.Outcome.next (awake_serve_unchanged hs hi rfl
      (pinRequest_noFields (decodePin_noSpool 0x32 hseg hn)) nofun)
  · exact congrArg Host.Outcome.next (awake_serve_unchanged hs hi rfl
      (unpinRequest_noFields (decodePin_noSpool 0x33 hseg hn)) nofun)
  · exact congrArg Host.Outcome.next (awake_serve_unchanged hs hi rfl
      ((pinRequest_taking hseg).trans (if_pos (Spool.disabled_iff.2 hc))) nofun)
  · exact congrArg Host.Outcome.next (awake_serve_unchanged hs hi rfl
      ((unpinRequest_taking hseg).trans (if_pos (Spool.disabled_iff.2 hc))) nofun)
  · refine congrArg Host.Outcome.next (awake_serve_unchanged hs hi rfl ((pinRequest_taking hseg).trans ?_) nofun)
    rw [if_neg (mt Spool.disabled_iff.1 hc), if_pos (Option.isSome_iff_ne_none.2 hx)]
    rfl
  · exact congrArg Host.Outcome.next (awake_serve_unchanged hs hi rfl
      ((pinRequest_accepted hseg hc hx).trans (if_pos (by simpa using hnone))) nofun)
  · have held : ¬ s.spools[i].held.all (fun r => r.seg != seg) = true := by simpa using ⟨r, hr, hsegr⟩
    have found := (pinRequest_accepted (rest := rest) hseg hc hx).trans (if_neg held)
    refine ⟨fun hp => ?_, fun hp hl => ?_, fun hp hl => ⟨insertPin seg s.spools[i].pins, insertPin_perm hp,
      pairwise_insertPin, ?_⟩⟩
    · exact congrArg Host.Outcome.next (awake_serve_unchanged hs hi rfl (found.trans (if_pos hp)) nofun)
    · exact congrArg Host.Outcome.next (awake_serve_unchanged hs hi rfl
        (found.trans ((if_neg hp).trans (if_pos hl))) nofun)
    · exact congrArg Host.Outcome.next (awake_serve_answered
        (t := (s.taking rest).setSpool i { s.spools[i] with pins := insertPin seg s.spools[i].pins })
        hs hi rfl (found.trans ((if_neg hp).trans (if_neg (Nat.not_le.2 hl)))) rfl nofun)
  · refine congrArg Host.Outcome.next (awake_serve_unchanged hs hi rfl ((unpinRequest_taking hseg).trans ?_) nofun)
    rw [if_neg (mt Spool.disabled_iff.1 hc), if_pos hp]
    rfl
  · have filtered : (s.spools[i].pins.filter fun p => decide (p ≠ seg)) = s.spools[i].pins.filter (· != seg) :=
      List.filter_congr fun p _ => Bool.eq_iff_iff.2 (by simp)
    rw [filtered]
    refine congrArg Host.Outcome.next (awake_serve_answered
      (t := (s.taking rest).setSpool i { s.spools[i] with pins := s.spools[i].pins.filter (· != seg) })
      hs hi rfl ((unpinRequest_taking hseg).trans ?_) rfl nofun)
    rw [if_neg (mt Spool.disabled_iff.1 hc), if_neg (not_not_intro hp)]

end Sys2Proof.Machine
end

section
/-! ERASE and its completion (R39 to R42, R46, R47). -/

namespace Sys2Proof.Machine

/-! ### The start -/

theorem endBurstForErase_frame (i : SpoolNo) (s : State) : endBurstForErase i s = { s with
    spools := (endBurstForErase i s).spools,
    burst := { s.burst with phase := (endBurstForErase i s).burst.phase } } := by
  unfold endBurstForErase
  split
  · split <;> rfl
  · rfl

/-- The blocks after the start of an erase: store, cursors and burst state (R40 to R42). -/
theorem startErase_frame (i : SpoolNo) (s : State) : startErase i s = { s with
    spools := (startErase i s).spools, cursors := mapV (Cursor.lapForErase i) s.cursors,
    burst := { s.burst with phase := if s.burst.phase.isOn i then .idle else s.burst.phase } } := by
  rw [← startErase_phase]
  exact endBurstForErase_frame i _

/-- A cursor's stream ended by the start of an erase of spool `i` (R42, R153). -/
def erasedEnd (i : SpoolNo) (s : State) (c : CursorNo) : Option Frame :=
  match s.cursors[c].state with
  | .streaming j _ _ _ => if j = i then some (.streamEnd c .erased) else none
  | _ => none

/-- The start of an erase ends the streams of its spool with reason ERASED, and no other (R42, R153). -/
theorem lappedEnds_startErase {i : SpoolNo} {s : State} (hx : s.spools[i].erasing = none) :
    lappedEnds s (startErase i s) = (List.finRange 4).filterMap (erasedEnd i s) := by
  have started : (startErase i s).spools[i].erasing ≠ none := by
    rw [startErase_spool, if_pos rfl]
    split <;> exact nofun
  rw [lappedEnds_reasons]
  congr 1
  funext c
  have cursor : (startErase i s).cursors[c] = s.cursors[c].lapForErase i := by
    rw [startErase_frame]
    exact mapV_get _ _ _
  rw [cursor]
  unfold erasedEnd Cursor.lapForErase
  cases hs : s.cursors[c].state with
  | streaming j p n f =>
    rcases eq_or_ne j i with rfl | hj
    · simp only [if_true, hx, ne_eq, started, not_false_eq_true, and_self]
    · simp only [hj, if_false, hs]
  | closed => rfl
  | positioned j p => split <;> simp_all
  | lapped => rfl

/-- The whole event of an erase's start: store and notification unit aside, the cursors, the burst state and the reply
queue change (R40 to R42, R153). -/
theorem closeEvent_startErase {i : SpoolNo} {s : State} (hx : s.spools[i].erasing = none) :
    closeEvent s (startErase i s) = { s with
      spools := (closeEvent s (startErase i s)).spools, notes := (closeEvent s (startErase i s)).notes,
      cursors := mapV (Cursor.lapForErase i) s.cursors,
      burst := { s.burst with phase := if s.burst.phase.isOn i then .idle else s.burst.phase },
      link := { s.link with
        replyQueue := s.link.replyQueue ++ (List.finRange 4).filterMap (erasedEnd i s) } } :=
  (closeEvent_frame (lappedEnds_startErase hx)).trans (congrArg (fun w : State => { w with
    spools := (closeEvent s (startErase i s)).spools, notes := (closeEvent s (startErase i s)).notes,
    link := { w.link with replyQueue := w.link.replyQueue ++ (List.finRange 4).filterMap (erasedEnd i s) } })
    (startErase_frame i s))

/-- The notification unit at the end of an event: NEAR_FULL alone may take an occurrence (R24). -/
theorem closeEvent_classes (s0 s : State) : (closeEvent s0 s).notes.credit = s.notes.credit ∧
    ∀ n : ClassNo, (closeEvent s0 s).notes.classes[n] =
      { s.notes.classes[n] with pendingDetail := (closeEvent s0 s).notes.classes[n].pendingDetail } := by
  have side : MidEffects [nearFullClass] (endLappedStreams s0 s) (closeEvent s0 s) := evaluateNearFull_effects s0 _
  rw [endLappedStreams_eq] at side
  exact ⟨side.credit, fun n => (side.occurrences n).1⟩

theorem decodeSpool_erase (i : SpoolNo) : decodeSpool [0x34, byte i.val] = some i := below_eq_some.2 (byte_spool_toNat i)

/-- An ERASE taken that starts: the event, and the stage of its request (R40, R181). -/
theorem takeErase_starts {s : State} {tag : Byte} {rest : List Request} {i : SpoolNo}
    (hi : s.link.intake = ⟨tag, [0x34, byte i.val]⟩ :: rest) (hc : s.spools[i].enabled = true)
    (hx : s.spools[i].erasing = none) :
    takeErase s =
      let v := closeEvent (s.taking rest) (startErase i (s.taking rest))
      v.setLink { v.link with outstanding := setStage tag (.erasing i) v.link.outstanding } := by
  have row : Request.row ⟨tag, [0x34, byte i.val]⟩ = .erase := rfl
  have allowed : eraseRefusal [0x34, byte i.val] (s.setLink { s.link with intake := rest }) = none := by
    rw [eraseRefusal, decodeSpool_erase]
    dsimp only
    rw [State.setLink_spools, hc, hx]
    rfl
  unfold takeErase
  rw [hi]
  dsimp only
  rw [if_pos row, allowed, decodeSpool_erase]
  rfl

theorem Spool.atEventEnd_erasing (sp0 sp : Spool) : (Spool.atEventEnd sp0 sp).erasing = sp.erasing := by
  unfold Spool.atEventEnd
  split <;> rfl

/-- Settles O25: the spool, its cursors and a burst open on it at the start, then the end of the event. -/
theorem eraseStarts : Obligations.EraseStarts := by
  intro s tag rest i hs hi hc hx
  let u := s.taking rest
  let v := closeEvent u (startErase i u)
  have whole := closeEvent_startErase (s := u) hx
  have notes : (startErase i u).notes = s.notes := (congrArg State.notes (startErase_frame i u) :)
  obtain ⟨credit, classes⟩ := closeEvent_classes u (startErase i u)
  have spool : v.spools[i] = Spool.atEventEnd s.spools[i] { s.spools[i] with
      erasing := s.spools[i].startErase.erasing, pins := [], tally := none,
      reservation := if s.burst.phase.isOn i then false else s.spools[i].reservation,
      burstSeg := if s.burst.phase.isOn i then false else s.spools[i].burstSeg } := by
    rw [closeEvent_spool, startErase_spool, if_pos rfl]
    change Spool.atEventEnd s.spools[i] (if s.burst.phase.isOn i then _ else _) = _
    cases s.burst.phase.isOn i <;> rfl
  have erasing : v.spools[i].erasing = s.spools[i].startErase.erasing := by
    rw [spool, Spool.atEventEnd_erasing]
  refine ⟨_, s.burst.phase.isOn i, BurstPhase.isOn_iff,
    congrArg Host.Outcome.next ((awake_running hs).trans (takeErase_starts hi hc hx)), ?_, ?_, fun j hj => ?_,
    (congrArg State.burst whole :), fun c => ?_, ?_, ?_, fun n hn => ?_, ?_, ?_, (congrArg State.lines whole :),
    (congrArg State.groups whole :), (congrArg State.pending whole :)⟩
  · rw [← erasing] at spool
    exact spool
  · change v.spools[i].erasing ≠ none
    rw [erasing]
    exact nofun
  · change v.spools[j] = s.spools[j]
    rw [closeEvent_spool, startErase_spool, if_neg hj.symm]
    exact Spool.atEventEnd_self _
  · change v.cursors[c] = _
    rw [show v.cursors = _ from congrArg State.cursors whole, mapV_get, Cursor.lapForErase_eq]
    rfl
  · change ({ v.link with outstanding := setStage tag (.erasing i) v.link.outstanding } : Link) = _
    rw [show v.link = _ from congrArg State.link whole]
    rfl
  · exact credit.trans (congrArg Notes.credit notes)
  · refine (closeEvent_class hn u (startErase i u)).trans ?_
    rw [notes]
  · refine (classes nearFullClass).trans ?_
    rw [notes]
    rfl
  · change (v.inReset, v.mode, v.time, v.wc, v.rc) = _
    rw [show v = _ from whole]
    rfl

/-! ### The completion -/

/-- What the completion leaves of a spool: its settings, its numbering and its losses (R46). -/
theorem Spool.finishErase_eq (sp : Spool) : sp.finishErase = { sp with
    held := [], current := none, burstSeg := false, segCount := 0, nearFull := .below, erasing := none,
    pins := sp.finishErase.pins } := by
  unfold Spool.finishErase
  rw [Spool.removeOldest_frame, List.drop_length]

/-- The completion drops the pin of every segment that had a held record (R32, R46). -/
theorem Spool.finishErase_pins {sp : Spool} {p : Nat} (hp : p ∈ sp.finishErase.pins) : ∀ r ∈ sp.held, r.seg ≠ p := by
  obtain ⟨-, ⟨r, hr, -⟩ | gone⟩ := Spool.mem_removeOldest_pins.1 hp
  · rw [List.drop_length] at hr
    exact absurd hr List.not_mem_nil
  · rwa [List.take_length] at gone

/-- Everything the completion of an erase can do (R46, R47). -/
theorem completeErase_cases {i : SpoolNo} {s : State} (hx : s.spools[i].erasing ≠ none) :
    (erasingEntry i s.link.outstanding = none ∧ completeErase i s = s.setSpool i s.spools[i].finishErase) ∨
    ∃ e, erasingEntry i s.link.outstanding = some e ∧ completeErase i s = makeReady e.tag e.code
      ⟨.ok, .erased s.spools[i].held.length s.spools[i].nextSeq s.spools[i].nextSeg⟩
      (s.setSpool i s.spools[i].finishErase) := by
  obtain ⟨n, hn⟩ := Option.ne_none_iff_exists'.1 hx
  unfold completeErase
  dsimp only
  rw [hn]
  cases erasingEntry i s.link.outstanding with
  | none => exact .inl ⟨rfl, rfl⟩
  | some e => exact .inr ⟨e, rfl, rfl⟩

theorem completeErase_spools {i : SpoolNo} {s : State} (hx : s.spools[i].erasing ≠ none) :
    (completeErase i s).spools = s.spools.set i s.spools[i].finishErase := by
  obtain ⟨-, e⟩ | ⟨_, -, e⟩ := completeErase_cases hx <;> rw [e] <;> rfl

/-- Settles O26: the spool is emptied, and the reply is that of the first request at stage ERASING with it. -/
theorem eraseCompletes : Obligations.EraseCompletes := by
  intro s i hs hx
  have spool : (completeErase i s).spools[i] = s.spools[i].finishErase := by
    rw [completeErase_spools hx, Vector_set_get, if_pos rfl]
  refine ⟨completeErase i s, congrArg Host.Outcome.next (awake_running hs), ?_, ?_, fun hnone => ?_,
    fun e before after hout hstage hbefore => ?_, fun j hj => ?_, ?_⟩
  · rw [spool]
    exact Spool.finishErase_eq _
  · rw [spool]
    exact fun p hp => Spool.finishErase_pins hp
  · obtain ⟨-, e⟩ | ⟨e, found, -⟩ := completeErase_cases hx
    · rw [e]
      rfl
    · obtain ⟨hstage, hmem⟩ := And.intro (List.find?_some found) (List.mem_of_find?_eq_some found)
      exact absurd (eq_of_beq hstage) (hnone e hmem)
  · have first : erasingEntry i s.link.outstanding = some e :=
      List.find?_eq_some_iff_append.2 ⟨beq_iff_eq.2 hstage, before, after, hout, fun e' he' => by
        simpa using hbefore e' he'⟩
    obtain ⟨noEntry, -⟩ | ⟨e', found, ready⟩ := completeErase_cases hx
    · exact nomatch noEntry.symm.trans first
    · cases found.symm.trans first
      rw [ready]
      rfl
  · rw [completeErase_spools hx, Vector_set_get, if_neg hj.symm]
  · obtain ⟨-, e⟩ | ⟨_, -, e⟩ := completeErase_cases hx <;> rw [e] <;> rfl

end Sys2Proof.Machine
end

section
/-! The deadline of a burst (R109): its MARK, its pin, BURST_END and the cooldown. -/

namespace Sys2Proof.Machine

/-! ### Events that lap no cursor and change no occupancy -/

theorem streamsLapped_same {s0 s : State} (hc : s.cursors = s0.cursors) : streamsLapped s0 s = [] :=
  List.filterMap_eq_nil_iff.2 fun c _ => by
    rw [hc]
    cases s0.cursors[c].state <;> rfl

theorem lappedEnds_same {s0 s : State} (hc : s.cursors = s0.cursors) : lappedEnds s0 s = [] :=
  List.filterMap_eq_nil_iff.2 fun c _ => by
    unfold streamLapped
    rw [hc]
    cases s0.cursors[c].state <;> rfl

/-- Such an event ends without a STREAM_END and without a near-full comparison (R24, R153). -/
theorem closeEvent_quiet {s0 s : State} (hc : s.cursors = s0.cursors)
    (ho : ∀ i : SpoolNo, s0.spools[i].occupancy = s.spools[i].occupancy) : closeEvent s0 s = s := by
  have ended : endLappedStreams s0 s = s := by
    rw [endLappedStreams_eq, lappedEnds_same hc, List.append_nil]
  unfold closeEvent
  rw [ended, evaluateNearFull_one s0 s 0 fun j _ => ho j]
  exact if_pos (ho 0)

theorem sideEffects_of_midEffects {raised : List ClassNo} {s t : State} (h : MidEffects raised s t)
    (hc : t.cursors = s.cursors) : SideEffects raised s t where
  inReset := h.inReset
  chatter := h.chatter
  pending := h.pending
  cursors := h.cursors
  link := by rw [streamsLapped_same hc, List.append_nil]; exact h.link
  credit := h.credit
  classes := h.classes
  occurrences := h.occurrences

/-! ### The close of a burst -/

/-- A spool after the close of a burst with open segment `seg`: the MARK in the reserved slot, and the pin where it is
asked for and the table has a place (R23, R37, R109). -/
def Spool.burstClosed (sp : Spool) (reason : MarkReason) (id seg now : Nat) (askPin : Bool) : Spool := { sp with
  held := sp.held ++ [{ seq := sp.nextSeq, seg, first := false, inBurst := sp.burstSeg,
                        draft := { body := .mark reason sp.segCount (some id), timestamp := now } }],
  nextSeq := sp.nextSeq + 1, current := none, burstSeg := false, reservation := false,
  pins := if askPin = true ∧ seg ∉ sp.pins ∧ sp.pins.length < 4 then insertPin seg sp.pins else sp.pins }

/-- The MARK takes the place of the reservation, so the occupancy stays (R6, R23). -/
theorem Spool.burstClosed_occupancy {sp : Spool} {reason : MarkReason} {id seg now : Nat} {askPin : Bool}
    (h : sp.reservation = true) : (sp.burstClosed reason id seg now askPin).occupancy = sp.occupancy := by
  simp [Spool.occupancy, Spool.burstClosed, h]

theorem Spool.mem_burstClosed_pins {sp : Spool} {reason : MarkReason} {id seg now p : Nat} {askPin : Bool} :
    p ∈ (sp.burstClosed reason id seg now askPin).pins ↔
      p ∈ sp.pins ∨ (p = seg ∧ askPin = true ∧ sp.pins.length < 4) := by
  unfold Spool.burstClosed
  dsimp only
  split
  · next h => rw [mem_insertPin]; tauto
  · next h =>
    refine ⟨.inl, fun hp => hp.elim (fun hp => hp) fun ⟨e, ha, hl⟩ => ?_⟩
    subst e
    by_contra hn
    exact h ⟨ha, hn, hl⟩

/-- The MARK of a burst fills the reserved slot of its open segment (R23, R109). -/
theorem Spool.fill_mark {sp : Spool} {reason : MarkReason} {id seg now : Nat} (hcur : sp.current = some seg) :
    sp.fill { body := .mark reason 0 (some id), timestamp := now } = sp.burstClosed reason id seg now false :=
  place_mark { sp with reservation := false } reason 0 (some id) now hcur

theorem Spool.pinForBurst_burstClosed (sp : Spool) (reason : MarkReason) (id seg now : Nat) :
    (sp.burstClosed reason id seg now false).pinForBurst seg = sp.burstClosed reason id seg now true := by
  have pins : (sp.burstClosed reason id seg now false).pins = sp.pins := by simp [Spool.burstClosed]
  unfold Spool.pinForBurst
  rw [pins]
  by_cases h : seg ∉ sp.pins ∧ sp.pins.length < 4
  · rw [if_neg fun k => k.elim h.1 (Nat.not_le.2 h.2)]
    simp [Spool.burstClosed, h]
  · rw [if_pos (by rw [not_and_or, not_not, Nat.not_lt] at h; exact h)]
    simp [Spool.burstClosed, h]

/-- The record of a burst's MARK: its segment, and the count it carries (R13, R23). -/
theorem Spool.newRecord_burstMark {sp : Spool} {reason : MarkReason} {id seg now : Nat} (hcur : sp.current = some seg) :
    let r := Spool.newRecord { sp with reservation := false } { body := .mark reason 0 (some id), timestamp := now }
    r.seg = seg ∧ r.draft.body.markInfo = some (sp.segCount, some id) := by
  simp [Spool.newRecord, hcur, RecordBody.markInfo]

/-- The burst controller's close of a burst whose segment `seg` is open (R109, R113). -/
theorem closeBurst_eq {reason : MarkReason} {askPin : Bool} {b : OpenBurst} {s : State} {seg : Nat}
    (hcur : s.spools[b.spool].current = some seg) :
    closeBurst reason askPin b s =
      let closed := s.spools[b.spool].burstClosed reason b.id seg s.time askPin
      raise burstEndClass (burstEndDetail b s.spools[b.spool] (decide (seg ∈ closed.pins)))
        (s.setSpool b.spool closed) := by
  obtain ⟨segment, info⟩ := Spool.newRecord_burstMark (reason := reason) (id := b.id) (now := s.time) hcur
  have kept : (if askPin then (s.spools[b.spool].burstClosed reason b.id seg s.time false).pinForBurst seg
      else s.spools[b.spool].burstClosed reason b.id seg s.time false)
      = s.spools[b.spool].burstClosed reason b.id seg s.time askPin := by
    rw [Spool.pinForBurst_burstClosed]
    cases askPin <;> rfl
  unfold closeBurst burstEndDetail
  dsimp only at segment info ⊢
  rw [segment, info, Spool.fill_mark hcur, kept, hcur, List.contains_eq_mem]
  rfl

/-- What DEADLINE_EXPIRY does when the window timer of the open burst has run out (R109). -/
theorem deadline_due {s : State} {b : OpenBurst} (hb : s.burst.phase = .isOpen b) (h0 : b.timer = 0) :
    deadline s = (closeBurst .burstEnd s.groups[b.group].cfg.pinOnBurst b s).setPhase
      (if s.burst.settings.h = 0 then .idle
        else .cooldown b.id b.spool b.group (1000 * s.burst.settings.h)) := by
  unfold deadline
  rw [hb]
  exact if_pos h0

/-- Settles O44: the MARK takes the reserved slot, so the occupancy is as before and the event ends with nothing more. -/
theorem deadlineClosesBurst : Obligations.DeadlineClosesBurst := by
  intro s b seg hs hb h0 hres hcur
  let closed := s.spools[b.spool].burstClosed .burstEnd b.id seg s.time s.groups[b.group].cfg.pinOnBurst
  have due := deadline_due hb h0
  rw [closeBurst_eq hcur] at due
  have spools : ∀ j : SpoolNo, (deadline s).spools[j] = if b.spool = j then closed else s.spools[j] := fun j => by
    rw [due]
    exact setSpool_spool b.spool j closed s
  have cursors : (deadline s).cursors = s.cursors := (congrArg State.cursors due :)
  have occupancy : ∀ j : SpoolNo, s.spools[j].occupancy = (deadline s).spools[j].occupancy := fun j => by
    rw [spools]
    split
    · next e =>
      subst e
      exact (Spool.burstClosed_occupancy hres).symm
    · rfl
  have executed : exec .deadlineExpiry s = .next (deadline s) :=
    congrArg Host.Outcome.next ((awake_running hs).trans (closeEvent_quiet cursors occupancy))
  have spool : (deadline s).spools[b.spool] = closed := (spools b.spool).trans (if_pos rfl)
  have effects : MidEffects [burstEndClass] s (deadline s) := by
    rw [due]
    exact (((setSpool_effects b.spool closed s).mono fun _ h => nomatch h).trans (raise_effects burstEndClass _ _)).trans
      (blocks_effects _ _ _ _ _)
  refine ⟨deadline s, executed, (congrArg State.mode due :), (congrArg State.time due :), (congrArg State.lines due :),
    (congrArg State.groups due :), cursors, effects.link, fun j hj => ?_, ?_, fun p => ?_,
    (congrArg State.burst due :), ?_, sideEffects_of_midEffects effects cursors⟩
  · rw [spools, if_neg hj.symm]
  · rw [spool]
    rfl
  · rw [spool]
    exact Spool.mem_burstClosed_pins
  · rw [spool, due]
    exact (raise_class _ _ _ _).trans (if_pos rfl)

end Sys2Proof.Machine
end

section
/-! The commands that leave the mode, the time base, the lines, the groups and the burst controller alone. -/

namespace Sys2Proof.Machine

namespace StoreOnly

variable {s t : State} {r r' : State × Reply}

theorem ite {c : Prop} [Decidable c] {t' : State} (h : StoreOnly s t) (k : StoreOnly s t') :
    StoreOnly s (if c then t else t') := by
  split
  exacts [h, k]

theorem awake {f : State → State} (h : StoreOnly s (f s)) : StoreOnly s (awake f s) := ite (refl s) h

theorem recording {f : State → State} (h : StoreOnly s (f s)) : StoreOnly s (recording f s) :=
  h.trans (closeEvent_storeOnly s (f s))

/-! ### Requests -/

theorem serve {row : Instr} {f : List Byte → State → State × Reply} (h : ∀ p u, StoreOnly u (f p u).1) (s : State) :
    StoreOnly s (serve row f s) := by
  obtain ⟨r, rest, -, -, e⟩ | ⟨-, e⟩ := serve_cases row f s <;> rw [e]
  · have taken : StoreOnly s (s.taking rest) := setLink_storeOnly _ s
    exact (taken.trans (h r.payload (s.taking rest))).trans (setLink_storeOnly _ _)
  · exact refl s

theorem ite_request {c : Prop} [Decidable c] (h : StoreOnly s r.1) (k : StoreOnly s r'.1) :
    StoreOnly s (if c then r else r').1 := by
  split
  exacts [h, k]

theorem withFields {α : Type} {fields : Option α} {k : α → State → State × Reply}
    (h : ∀ a, StoreOnly s (k a s).1) : StoreOnly s (withFields fields k s).1 := by
  cases fields
  exacts [refl s, h _]

theorem inSetup {k : State → State × Reply} (h : StoreOnly s (k s).1) : StoreOnly s (inSetup k s).1 :=
  ite_request h (refl s)

theorem endStream (c : CursorNo) (reason : StreamEnd) (s : State) : StoreOnly s (endStream c reason s) := by
  unfold Machine.endStream
  split
  exacts [setLink_storeOnly _ s, refl s]

theorem setCursor (c : CursorNo) (cu : Cursor) (s : State) : StoreOnly s (s.setCursor c cu) := ⟨rfl, rfl, rfl, rfl, rfl⟩

theorem onCursor {c : CursorNo} {body : Position → Body} {k : SpoolNo → Nat → State → State × Reply}
    (h : ∀ i pos, StoreOnly s (k i pos s).1) : StoreOnly s (onCursor c body k s).1 := by
  unfold Machine.onCursor
  dsimp only
  split
  · exact refl s
  · exact ite_request (refl s) (ite_request (refl s) (refl s))
  · exact ite_request (refl s) (ite_request (refl s) (setCursor _ _ s))
  · exact ite_request (refl s) (ite_request (refl s) (h _ _))

variable (p : List Byte) (s)

theorem setChatter : StoreOnly s (setChatterRequest p s).1 := withFields fun _ => inSetup ⟨rfl, rfl, rfl, rfl, rfl⟩

theorem setNote : StoreOnly s (setNoteRequest p s).1 := withFields fun _ => ⟨rfl, rfl, rfl, rfl, rfl⟩

theorem setSpool : StoreOnly s (setSpoolRequest p s).1 := by
  obtain e | ⟨i, capacity, policy, threshold, -, -, e⟩ := setSpoolRequest_cases p s <;> rw [e]
  · exact refl s
  · rw [storeSpool_frame]
    exact ⟨rfl, rfl, rfl, rfl, rfl⟩

theorem cut : StoreOnly s (cutRequest p s).1 := withFields fun i => by
  refine ite_request (refl s) (ite_request (refl s) (ite_request (refl s) ?_))
  split
  · exact refl s
  · exact ite_request (refl s) ((append_storeOnly i _ s).trans (closeEvent_storeOnly s _))

theorem release : StoreOnly s (releaseRequest p s).1 := withFields fun f =>
  ite_request (refl s) (ite_request (refl s) (recording (releaseSpool_storeOnly f.1 f.2 s)))

theorem pin : StoreOnly s (pinRequest p s).1 := withFields fun _ =>
  ite_request (refl s) (ite_request (refl s) (ite_request (refl s) (ite_request (refl s) (ite_request (refl s)
    (setSpool_storeOnly _ _ s)))))

theorem unpin : StoreOnly s (unpinRequest p s).1 := withFields fun _ =>
  ite_request (refl s) (ite_request (refl s) (setSpool_storeOnly _ _ s))

theorem getSpool : StoreOnly s (getSpoolRequest p s).1 := withFields fun _ => refl s

theorem openCursor : StoreOnly s (openCursorRequest p s).1 := withFields fun f => by
  refine ite_request (refl s) (ite_request (refl s) ?_)
  split
  · exact refl s
  · exact (endStream f.1 .closed s).trans (setCursor _ _ _)

theorem closeCursor : StoreOnly s (closeCursorRequest p s).1 := withFields fun c => by
  split
  · exact refl s
  · exact (endStream c .closed s).trans (setCursor _ _ _)

theorem read : StoreOnly s (readRequest p s).1 :=
  withFields fun _ => onCursor fun _ _ => ite_request (refl s) (setCursor _ _ s)

theorem space : StoreOnly s (spaceRequest p s).1 := withFields fun _ => onCursor fun _ _ => setCursor _ _ s

theorem skip : StoreOnly s (skipRequest p s).1 := withFields fun _ => onCursor fun _ _ => setCursor _ _ s

theorem stream : StoreOnly s (streamRequest p s).1 := withFields fun _ => onCursor fun _ _ => setCursor _ _ s

theorem stopStream : StoreOnly s (stopStreamRequest p s).1 := withFields fun c => by
  split
  exacts [refl s, ⟨rfl, rfl, rfl, rfl, rfl⟩, refl s]

theorem listSegments : StoreOnly s (listSegmentsRequest p s).1 :=
  withFields fun _ => ite_request (refl s) (ite_request (refl s) (refl s))

theorem credit : StoreOnly s (creditRequest p s).1 := withFields fun _ => ⟨rfl, rfl, rfl, rfl, rfl⟩

theorem ackNote : StoreOnly s (ackNoteRequest p s).1 :=
  withFields fun _ => ite_request ⟨rfl, rfl, rfl, rfl, rfl⟩ (refl s)

theorem completeErase (i : SpoolNo) : StoreOnly s (completeErase i s) := by
  unfold Machine.completeErase
  dsimp only
  split
  · exact refl s
  · split <;> exact ⟨rfl, rfl, rfl, rfl, rfl⟩

/-! ### The link and the notification unit -/

theorem countFault (k : CounterNo) : StoreOnly s (countFault k s) := ⟨rfl, rfl, rfl, rfl, rfl⟩

theorem setRx (rx : Receiver) : StoreOnly s (s.setRx rx) := setLink_storeOnly _ s

theorem acknowledgeExpiry (n : ClassNo) : StoreOnly s (acknowledgeExpiry n s) :=
  ite ⟨rfl, rfl, rfl, rfl, rfl⟩ (refl s)

theorem gapExpiry : StoreOnly s (gapExpiry s) := ite ((setRx s _).trans (countFault _ _)) (refl s)

theorem lengthFault (b : Byte) : StoreOnly s (lengthFault b s) := by
  unfold Machine.lengthFault
  split
  exacts [ite (refl s) ((setRx s _).trans (countFault _ _)), refl s]

theorem characterError (stillLow : Bool) : StoreOnly s (characterError stillLow s) := by
  unfold Machine.characterError
  dsimp only
  split
  exacts [refl s, setRx s _, (setRx s _).trans (countFault _ _)]

theorem lineHigh : StoreOnly s (lineHigh s) := by
  unfold Machine.lineHigh
  split
  exacts [setLink_storeOnly _ s, refl s]

theorem makeRefusal (tag : Byte) (code : Option Byte) (st : Status) : StoreOnly s (makeRefusal tag code st s) :=
  ite ((setLink_storeOnly _ s).trans (setLink_storeOnly _ _)) (countFault s _)

theorem handOn (body : List Byte) : StoreOnly s (handOn body s) := by
  unfold Machine.handOn
  split
  · exact ite (ite (makeRefusal s _ _ _) (ite (makeRefusal s _ _ _) (setLink_storeOnly _ s))) (makeRefusal s _ _ _)
  · exact refl s

theorem frameArrival (low : Byte) : StoreOnly s (frameArrival low s) := by
  unfold Machine.frameArrival
  split
  · exact ite ((setRx s _).trans (handOn _ _)) ((setRx s _).trans (countFault _ _))
  · exact refl s

theorem linkBreak : StoreOnly s (linkBreak s) := by
  have readout : ∀ u, StoreOnly u (breakNotes (breakCursors (breakLink u))) := fun _ => ⟨rfl, rfl, rfl, rfl, rfl⟩
  exact ite (refl s) ((countFault s _).trans (readout _))

theorem sendNote (c : ClassNo) : StoreOnly s (sendNote c s) := by
  unfold Machine.sendNote
  split
  exacts [⟨rfl, rfl, rfl, rfl, rfl⟩, refl s]

theorem sendStream (c : CursorNo) : StoreOnly s (sendStream c s) := by
  unfold Machine.sendStream
  split
  exacts [⟨rfl, rfl, rfl, rfl, rfl⟩, refl s]

theorem arbiterChoice : StoreOnly s (arbiterChoice s) := by
  unfold Machine.arbiterChoice
  split
  · exact refl s
  · split
    · exact (setLink_storeOnly _ s).trans (setLink_storeOnly _ _)
    · split
      · exact sendNote s _
      · split
        exacts [sendStream s _, refl s]

theorem completeTransmission : StoreOnly s (completeTransmission s) := by
  have told : ∀ f u, StoreOnly u (tellOwner f u) := fun f u => by
    unfold tellOwner
    split
    exacts [setLink_storeOnly _ u, setLink_storeOnly _ u, setCursor _ _ u, refl u, refl u, refl u]
  unfold Machine.completeTransmission
  split
  · exact ite ((setLink_storeOnly _ s).trans (told _ _)) (refl s)
  · exact refl s

end StoreOnly

end Sys2Proof.Machine
end

section
/-! What the evaluations of a qualified change do to the groups and to the burst controller (R76, R99 to R106). -/

namespace Sys2Proof.Machine

/-- The burst controller has a place for each of its ring's entries, holds none while a burst is OPEN, and numbers the
next burst from 1 to 65535 (R97, R98, R101). -/
structure BurstUnit.Sound (b : BurstUnit) : Prop where
  size : b.ring.length ≤ Config.ringSize
  closed : b.ring ≠ [] → b.phase.open? = none
  nextId : 1 ≤ b.nextId ∧ b.nextId ≤ max16

/-- Nothing but the groups, the store and the burst controller differs, and that one stays sound. -/
structure Evaluating (s t : State) : Prop where
  mode : t.mode = s.mode
  time : t.time = s.time
  lines : t.lines = s.lines
  burst : s.burst.Sound → t.burst.Sound

variable {s t u : State}

namespace Evaluating

theorem of_storeOnly (h : StoreOnly s t) : Evaluating s t := ⟨h.mode, h.time, h.lines, fun k => h.burst ▸ k⟩

theorem refl (s : State) : Evaluating s s := of_storeOnly (.refl s)

theorem trans (h : Evaluating s t) (k : Evaluating t u) : Evaluating s u :=
  ⟨k.mode.trans h.mode, k.time.trans h.time, k.lines.trans h.lines, fun b => k.burst (h.burst b)⟩

end Evaluating

/-! ### Trips -/

theorem nextBurstId_range {id : Nat} (h : 1 ≤ id ∧ id ≤ max16) : 1 ≤ nextBurstId id ∧ nextBurstId id ≤ max16 := by
  unfold nextBurstId
  split
  · exact ⟨le_rfl, by decide⟩
  · omega

theorem openBurst_evaluating (tr : Trip) (s : State) :
    Evaluating s (openBurst tr s).1 ∧ (openBurst tr s).1.groups = s.groups := by
  have opened := openBurst_storeOnly tr s
  refine ⟨⟨opened.mode, opened.time, opened.lines, fun h => ?_⟩, opened.groups⟩
  rw [openBurst_burst]
  exact ⟨Nat.zero_le _, fun k => absurd rfl k, nextBurstId_range h.nextId⟩

/-- A trip of a BURST group leaves the groups as they are, whatever its disposition (R99 to R106). -/
theorem burstTrip_evaluating (tr : Trip) (s : State) :
    Evaluating s (burstTrip tr s).1 ∧ (burstTrip tr s).1.groups = s.groups := by
  have appended : ∀ u i d, Evaluating u (append i d u).1 ∧ (append i d u).1.groups = u.groups := fun u i d =>
    ⟨.of_storeOnly (append_storeOnly i d u), (append_storeOnly i d u).groups⟩
  have tried : ∀ u, Evaluating u (tryOpen tr u).1 ∧ (tryOpen tr u).1.groups = u.groups := fun u => by
    unfold tryOpen
    dsimp only
    split
    exacts [openBurst_evaluating tr u, appended u _ _]
  unfold burstTrip
  split
  · exact tried s
  · next b hb =>
    obtain ⟨h, groups⟩ := appended (s.setPhase (.isOpen { b with
      deadline := extendedDeadline b s.burst.settings tr.time,
      timer := b.timer + (extendedDeadline b s.burst.settings tr.time - b.deadline) })) tr.cfg.route
      (tr.record .extended (some b.id))
    refine ⟨⟨h.mode, h.time, h.lines, fun k => h.burst ⟨k.size, fun hr => ?_, k.nextId⟩⟩, groups⟩
    have shut := k.closed hr
    rw [hb] at shut
    exact nomatch shut
  · split
    · obtain ⟨h, groups⟩ := tried (s.setPhase .idle)
      have left : Evaluating s (s.setPhase .idle) := ⟨rfl, rfl, rfl, fun k => ⟨k.size, fun _ => rfl, k.nextId⟩⟩
      exact ⟨left.trans h, groups⟩
    · exact appended s _ _

/-- The trip of a group of action LOG (R78). -/
theorem tripGroup_log {c : Change} {g : GroupNo} {s : State} (h : s.groups[g].cfg.action = .log) :
    tripGroup g c s =
      raise tripClass (.trip (single g) 1
        ((append s.groups[g].cfg.route ((tripOf g c s).record .none none) (countTrip g c s)).2.map
          fun q => (s.groups[g].cfg.route, q)))
        (append s.groups[g].cfg.route ((tripOf g c s).record .none none) (countTrip g c s)).1 := by
  unfold tripGroup
  dsimp only
  rw [h]
  rfl

theorem tripGroup_evaluating (g : GroupNo) (c : Change) (s : State) :
    Evaluating s (tripGroup g c s) ∧ (tripGroup g c s).groups = s.groups.set g
      { s.groups[g] with state := .tripped c.time, tripCount := satAdd max16 s.groups[g].tripCount 1 } := by
  have counted : Evaluating s (countTrip g c s) := ⟨rfl, rfl, rfl, id⟩
  cases h : s.groups[g].cfg.action with
  | log =>
    rw [tripGroup_log h]
    have only := append_storeOnly s.groups[g].cfg.route ((tripOf g c s).record .none none) (countTrip g c s)
    exact ⟨counted.trans (.of_storeOnly (only.trans (raise_storeOnly _ _ _))), only.groups⟩
  | burst =>
    rw [tripGroup_burst h]
    obtain ⟨asked, only⟩ := burstTrip_evaluating (tripOf g c s) (countTrip g c s)
    exact ⟨counted.trans (asked.trans (.of_storeOnly (raise_storeOnly _ _ _))), only⟩

/-! ### The evaluation of one group -/

/-- The evaluation `e` holds what the lines of `s` say of group `g` (R3, R75). -/
structure Evaluation.Reads (e : Evaluation) (s : State) (g : GroupNo) : Prop where
  levels : e.levels g = memberLevels s.lines s.groups[g].cfg
  verdict : e.conforms g = Machine.conforms s.lines s.groups[g].cfg

theorem setGroup_self (g : GroupNo) (s : State) : s.setGroup g s.groups[g] = s :=
  congrArg (fun groups => { s with groups }) (Vector.set_getElem_self _)

section One

variable {e : Evaluation} {c : Change} {g : GroupNo} (reads : e.Reads s g)
include reads

/-- An evaluation without a trip is the group's new state and its record, if it has one (R76, R81, R83). -/
theorem evaluateGroup_untripped (h : e.trips s c g = false) : evaluateGroup c g s =
    match e.record s c g with
    | some body => appendTo s.groups[g].cfg.route (changeDraft c body) (s.setGroup g (e.group s c g))
    | none => s.setGroup g (e.group s c g) := by
  cases hc : Evaluation.covers s c g with
  | false => rw [evaluateGroup_uncovered hc, Evaluation.record, Evaluation.group, hc]; exact (setGroup_self g s).symm
  | true =>
    have member : (s.groups[g].cfg.enabled && s.groups[g].cfg.members.getLsbD c.line.val) = true := hc
    rw [Evaluation.trips, hc, reads.verdict] at h
    unfold evaluateGroup Evaluation.record Evaluation.group
    rw [if_pos member, hc, reads.verdict, reads.levels]
    dsimp only
    cases hst : s.groups[g].state <;> cases hok : conforms s.lines s.groups[g].cfg
    case conforming.false => rw [hst, hok] at h; exact nomatch h
    case off.false | off.true | conforming.true | blocked.false => exact (setGroup_self g s).symm
    case tripped.false t => exact congrArg (appendTo _ _) (setGroup_self g s).symm
    case tripped.true t => rfl
    case blocked.true => rfl

/-- A group whose members part from their reference levels trips; its new state is the evaluation's (R76, R77). -/
theorem evaluateGroup_tripped (h : e.trips s c g = true) : evaluateGroup c g s = tripGroup g c s ∧
    e.group s c g =
      { s.groups[g] with state := .tripped c.time, tripCount := satAdd max16 s.groups[g].tripCount 1 } := by
  rw [Evaluation.trips, Bool.and_eq_true, Bool.and_eq_true, beq_iff_eq, Bool.not_eq_true'] at h
  obtain ⟨⟨hc, hst⟩, hok⟩ := h
  refine ⟨evaluateGroup_trips hc hst (reads.verdict.symm.trans hok), ?_⟩
  rw [Evaluation.group, hc, hst, hok]
  rfl

/-- What the evaluation of a group leaves (R76, R77). -/
theorem evaluateGroup_evaluating :
    Evaluating s (evaluateGroup c g s) ∧ (evaluateGroup c g s).groups = s.groups.set g (e.group s c g) := by
  cases h : e.trips s c g with
  | true =>
    obtain ⟨trip, group⟩ := evaluateGroup_tripped reads h
    rw [trip, group]
    exact tripGroup_evaluating g c s
  | false =>
    rw [evaluateGroup_untripped reads h]
    have set : Evaluating s (s.setGroup g (e.group s c g)) := ⟨rfl, rfl, rfl, id⟩
    split
    · have only := appendTo_storeOnly s.groups[g].cfg.route (changeDraft c ‹_›) (s.setGroup g (e.group s c g))
      exact ⟨set.trans (.of_storeOnly only), only.groups⟩
    · exact ⟨set, rfl⟩

end One

/-! ### The evaluations of a change, one after the other -/

/-- The evaluations of the first `n` groups (R76). -/
def evaluateFirst (c : Change) (n : Nat) (s : State) : State :=
  ((List.finRange 8).take n).foldl (fun acc g => evaluateGroup c g acc) s

theorem groups_take_succ (g : GroupNo) :
    (List.finRange 8).take (g.val + 1) = (List.finRange 8).take g.val ++ [g] := by
  rw [List.take_add_one, List.getElem?_eq_getElem (by simp [g.isLt])]
  simp

theorem evaluateFirst_succ (c : Change) (g : GroupNo) (s : State) :
    evaluateFirst c (g.val + 1) s = evaluateGroup c g (evaluateFirst c g.val s) := by
  unfold evaluateFirst
  rw [groups_take_succ, List.foldl_append]
  rfl

theorem evaluateFirst_all (c : Change) (s : State) : evaluateFirst c 8 s = evaluateGroups c s := rfl

/-- What holds before the first evaluation and through each of them holds after all. -/
theorem evaluateGroups_induction {c : Change} {s : State} {P : Nat → State → Prop} (first : P 0 s)
    (next : ∀ (g : GroupNo) u, P g.val u → P (g.val + 1) (evaluateGroup c g u)) : P 8 (evaluateGroups c s) := by
  have key : ∀ n, n ≤ 8 → P n (evaluateFirst c n s) := fun n => by
    induction n with
    | zero => exact fun _ => first
    | succ n ih =>
      intro h
      have := next ⟨n, h⟩ _ (ih (Nat.le_of_succ_le h))
      rwa [← evaluateFirst_succ] at this
  exact key 8 le_rfl

theorem Evaluation.group_congr {e : Evaluation} {c : Change} {g : GroupNo} (h : t.groups[g] = s.groups[g]) :
    e.group t c g = e.group s c g := by
  unfold group covers tripCount
  rw [h]

theorem Evaluation.Reads.congr {e : Evaluation} {g : GroupNo} (h : e.Reads s g) (hl : t.lines = s.lines)
    (hg : t.groups[g] = s.groups[g]) : e.Reads t g where
  levels := by rw [hl, hg]; exact h.levels
  verdict := by rw [hl, hg]; exact h.verdict

/-- The groups when the first `n` have been evaluated. -/
def Evaluation.GroupsAt (e : Evaluation) (s : State) (c : Change) (n : Nat) (t : State) : Prop :=
  ∀ g : GroupNo, t.groups[g] = if g.val < n then e.group s c g else s.groups[g]

theorem Evaluation.GroupsAt.next {e : Evaluation} {c : Change} {g : GroupNo} {gr : Group} (h : e.GroupsAt s c g.val u)
    (hg : gr = e.group s c g) (ht : t.groups = u.groups.set g gr) : e.GroupsAt s c (g.val + 1) t := fun k => by
  rw [ht, Vector_set_get, hg]
  rcases eq_or_ne g k with rfl | hk
  · rw [if_pos rfl, if_pos (Nat.lt_succ_self _)]
  · have : g.val ≠ k.val := fun e => hk (Fin.ext e)
    rw [if_neg hk, h k]
    exact if_congr (by omega) rfl rfl

/-- What the evaluations of a change leave of the groups (R76, R77). -/
theorem evaluateGroups_evaluating {e : Evaluation} {c : Change} (reads : ∀ g, e.Reads s g) :
    Evaluating s (evaluateGroups c s) ∧ ∀ g : GroupNo, (evaluateGroups c s).groups[g] = e.group s c g := by
  have all : Evaluating s (evaluateGroups c s) ∧ e.GroupsAt s c 8 (evaluateGroups c s) := by
    refine evaluateGroups_induction (P := fun n t => Evaluating s t ∧ e.GroupsAt s c n t)
      ⟨.refl s, fun g => rfl⟩ fun g u h => ?_
    obtain ⟨before, groups⟩ := h
    have own : u.groups[g] = s.groups[g] := (groups g).trans (if_neg (Nat.lt_irrefl _))
    obtain ⟨now, set⟩ := evaluateGroup_evaluating (c := c) ((reads g).congr before.lines own)
    exact ⟨before.trans now, groups.next (Evaluation.group_congr own) set⟩
  exact ⟨all.1, fun g => (all.2 g).trans (if_pos g.isLt)⟩

end Sys2Proof.Machine
end

section
/-! A qualified change in every burst state (R65 steps 1 to 3, R67): its records, its ring entry, its level. -/

namespace Sys2Proof.Machine

section Steps

variable (c : Change) (level : Bool)

/-! ### The two steps that ask for an EDGE -/

theorem captureEdge_storeOnly (s : State) : StoreOnly s (captureEdge c level s) := by
  unfold captureEdge
  dsimp only
  split
  · split
    exacts [appendTo_storeOnly _ _ s, .refl s]
  · exact .refl s

theorem captureEdge_effects (s : State) : MidEffects [lossClass] s (captureEdge c level s) := by
  unfold captureEdge
  dsimp only
  split
  · split
    exacts [appendTo_effects _ _ s, .refl _ s]
  · exact .refl _ s

/-- Step 1 of R65 at a spool. -/
theorem logEdge_spools (s : State) (i : SpoolNo) : (logEdge c level s).spools[i] =
    if s.lines[c.line].cfg.logEdges && s.lines[c.line].cfg.route == i then
      s.spools[i].appended s.time (changeDraft c (.edge c.line level))
    else s.spools[i] := by
  unfold logEdge
  dsimp only
  cases s.lines[c.line].cfg.logEdges with
  | false => rfl
  | true =>
    rw [if_pos rfl, appendTo_spool, Bool.true_and]
    rcases eq_or_ne s.lines[c.line].cfg.route i with rfl | h
    · rw [if_pos rfl, beq_self_eq_true]; rfl
    · rw [if_neg h, if_neg fun e => h (beq_iff_eq.1 e)]

/-- Step 2 of R65 at a spool, with burst `b` OPEN. -/
theorem captureEdge_spools {s : State} {b : OpenBurst} (hb : s.burst.phase = .isOpen b) (i : SpoolNo) :
    (captureEdge c level s).spools[i] =
      if s.lines[c.line].cfg.capture && b.spool == i &&
          !(s.lines[c.line].cfg.logEdges && s.lines[c.line].cfg.route == i) then
        s.spools[i].appended s.time (changeDraft c (.edge c.line level))
      else s.spools[i] := by
  unfold captureEdge
  dsimp only
  rw [hb]
  dsimp only
  rcases eq_or_ne b.spool i with rfl | h
  · rw [beq_self_eq_true, Bool.and_true]
    split
    · rw [appendTo_spool, if_pos rfl]; rfl
    · rfl
  · rw [beq_false_of_ne h, Bool.and_false, Bool.false_and]
    split
    · rw [appendTo_spool, if_neg h]; rfl
    · rfl

/-- Steps 1 and 2 of R65 at a spool: one EDGE where they name the same spool. -/
theorem edges_spool (s : State) (i : SpoolNo) : (captureEdge c level (logEdge c level s)).spools[i] =
    s.spools[i].appendedAll s.time
      (if edgeGoesTo s c.line i then [changeDraft c (.edge c.line level)] else []) := by
  have logged := logEdge_storeOnly c level s
  cases hopen : s.burst.phase.open? with
  | none =>
    rw [captureEdge_shut c level (by rw [logged.burst]; exact hopen), logEdge_spool c level hopen]
  | some b =>
    have hb : s.burst.phase = .isOpen b := by
      cases h : s.burst.phase <;> rw [h] at hopen <;> cases hopen
      rfl
    have goes : edgeGoesTo s c.line i = (s.lines[c.line].cfg.logEdges && s.lines[c.line].cfg.route == i ||
        s.lines[c.line].cfg.capture && b.spool == i) := by
      rw [edgeGoesTo, hopen]
      rfl
    rw [captureEdge_spools c level (by rw [logged.burst]; exact hb), logEdge_spools, logged.lines, logged.time, goes]
    cases s.lines[c.line].cfg.logEdges && s.lines[c.line].cfg.route == i <;>
      cases s.lines[c.line].cfg.capture && b.spool == i <;> rfl

/-! ### The lookback entry -/

/-- Step 3 of R65. -/
theorem enterRing_eq (s : State) : enterRing c level s = s.setRing (changeRing s c level) := by
  cases hopen : s.burst.phase.open? with
  | none => exact enterRing_shut c level hopen
  | some b =>
    have ring : changeRing s c level = s.burst.ring := if_neg fun h => Option.some_ne_none b (hopen.symm.trans h.2)
    rw [ring]
    unfold enterRing
    cases h : s.burst.phase with
    | isOpen b => rfl
    | idle => rw [h] at hopen; exact nomatch hopen
    | cooldown => rw [h] at hopen; exact nomatch hopen

end Steps

/-! ### The change -/

/-- A change while not ARMED sets the level and does nothing else (R67). -/
theorem qualifiedChange_unarmed {c : Change} {level : Bool} {s : State} (h : s.mode ≠ .armed) :
    qualifiedChange c level s = s.setLine c.line { s.lines[c.line] with qualified := level } := if_neg h

/-- An accepted change is evaluated after its own records, whatever the burst state (R65). -/
theorem Accepted.evaluated {s u : State} {c : Change} {level : Bool} {ln : Line} (h : Accepted s c level ln u)
    (armed : s.mode = .armed) : ∃ w, qualifiedChange c level u = evaluateGroups c w ∧ Recorded s c level ln w := by
  have line : u.lines[c.line] = ln := by
    rw [h.lines, Vector_set_get, if_pos rfl]
  generalize hx : u.setLine c.line { ln with qualified := level } = x
  have xlines : x.lines = s.lines.set c.line { ln with qualified := level } := by
    rw [← hx, State.setLine_lines, h.lines, Vector.set_set]
  have xcfg : x.lines[c.line].cfg = s.lines[c.line].cfg := by
    rw [xlines, Vector_set_get, if_pos rfl]
    exact h.cfg
  have xburst : x.burst = s.burst := by rw [← hx]; exact h.burst
  have xeffects : MidEffects [lossClass] u x := by rw [← hx]; exact blocks_effects _ u _ _ _
  have asked := (logEdge_storeOnly c level x).trans (captureEdge_storeOnly c level _)
  have goes : ∀ i, edgeGoesTo x c.line i = edgeGoesTo s c.line i := fun i => by
    unfold edgeGoesTo
    rw [xcfg, xburst]
  have ring : changeRing (captureEdge c level (logEdge c level x)) c level = changeRing s c level := by
    unfold changeRing
    rw [asked.burst, asked.lines, xcfg, xburst]
  refine ⟨(captureEdge c level (logEdge c level x)).setRing (changeRing s c level), ?_, ?_⟩
  · unfold qualifiedChange
    dsimp only
    rw [if_pos (h.mode.trans armed), line, hx, enterRing_eq, ring]
  · exact {
      mode := asked.mode.trans (by rw [← hx]; exact h.mode)
      time := asked.time.trans (by rw [← hx]; exact h.time)
      groups := asked.groups.trans (by rw [← hx]; exact h.groups)
      burst := by rw [State.setRing_burst, asked.burst, xburst]
      lines := asked.lines.trans xlines
      spools := fun i => by
        rw [State.setRing_spools, edges_spool, goes, ← hx]
        show u.spools[i].appendedAll u.time _ = _
        rw [h.spools, h.time, ← Spool.appendedAll_append]
        rfl
      effects := ((h.effects.trans xeffects).trans
        ((logEdge_effects c level x).trans (captureEdge_effects c level _))).trans (blocks_effects _ _ _ _ _) }

/-- A release takes its change with the CHATTER_END only where the recorder is ARMED (R64). -/
theorem releaseExpiry_unarmed {s : State} {l : LineNo} (hm : s.mode ≠ .armed) (hst : s.lines[l].state = .suppressed 0)
    (hd : s.lines[l].raw ≠ s.lines[l].qualified) :
    releaseExpiry l s = qualifiedChange ⟨l, s.time, false, true⟩ s.lines[l].raw
      (s.setLine l { s.lines[l] with state := .quiet, chatterCount := 0 }) := by
  unfold releaseExpiry
  dsimp only
  rw [hst, if_neg hd, if_neg hm]
  rfl

/-- While not ARMED a change is accepted with nothing but its line changed (R54 to R59, R64, R67). -/
theorem accepts_event_unarmed {s : State} {cmd : Instr} {c : Change} {level : Bool} {ln : Line}
    (hs : s.inReset = false) (hm : s.mode ≠ .armed) (h : Accepts s cmd c level ln) :
    exec cmd s = .next (closeEvent s (s.setLine c.line { ln with qualified := level })) := by
  have event : ∀ {f : State → State} {u : State}, f s = qualifiedChange c level u → u = s.setLine c.line ln →
      (.next (awake (recording f) s) : Host.Outcome State Fault Refusal) =
        .next (closeEvent s (s.setLine c.line { ln with qualified := level })) := fun {f u} e hu => by
    have changed : f s = s.setLine c.line { ln with qualified := level } := by
      rw [e, hu, qualifiedChange_unarmed (s := s.setLine c.line ln) hm, setLine_line, setLine_setLine]
    rw [awake_running hs, recording, changed]
  cases h with
  | stable l pin hst hp hstable h0 =>
    have line := setLine_line l { s.lines[l] with pin } s
    refine event ((rawChange_quiet hst hp).trans ((departure_stable ?_ ?_).trans ?_)) rfl
    · rw [line]; exact hstable
    · rw [line]; exact h0
    · rw [line]; rfl
  | latch l pin hst hp hlatch =>
    have line := setLine_line l { s.lines[l] with pin } s
    refine event ((rawChange_quiet hst hp).trans ((departure_latch ?_).trans ?_)) (latched_line hst)
    · rw [line]; exact hlatch
    · rw [line, setLine_setLine]
      rfl
  | settled l t0 hst => exact event (settlingExpiry_due hst) rfl
  | late l hst hd => exact event (lockoutExpiry_late hst hd) rfl
  | released l hst hd => exact event (releaseExpiry_unarmed hm hst hd) rfl

/-- An event that changes lines alone ends as it stands (R24, R153). -/
theorem closeEvent_setLine (s : State) (l : LineNo) (ln : Line) : closeEvent s (s.setLine l ln) = s.setLine l ln :=
  closeEvent_quiet rfl fun _ => rfl

/-- Settles O37: the event of the change leaves its line alone, and so ends as it stands. -/
theorem qualifiedChangeNotArmed : Obligations.QualifiedChangeNotArmed := by
  intro s cmd c level ln hs hm h
  rw [accepts_event_unarmed hs hm h, closeEvent_setLine]
  rfl

end Sys2Proof.Machine
end

section
/-! Raw changes and expiries that lead to no qualified change (R51 to R64): what each does in each line state. -/

namespace Sys2Proof.Machine

/-! ### Excursions counted for chatter (R60, R62) -/

/-- A line with one more excursion counted; the first one starts the window (R60). -/
def Line.counted (ln : Line) (wc : Nat) : Line :=
  { ln with
    chatterCount := ln.chatterCount + 1,
    window := if ln.chatterCount = 0 then some (1000 * wc) else ln.window }

/-- A line as its suppression begins (R62). -/
def Line.suppress (ln : Line) (rc : Nat) : Line := { ln with state := .suppressed (1000 * rc), window := none }

section Lines

variable {s : State} {l : LineNo} {ln : Line} {pin : Bool}

theorem countExcursion_ignored (hk : ln.cfg.k = 0) : countExcursion l (s.setLine l ln) = s.setLine l ln := by
  unfold countExcursion
  rw [setLine_line]
  exact if_pos hk

theorem countExcursion_counted (hk : ln.cfg.k ≠ 0) (hc : ln.chatterCount + 1 ≠ ln.cfg.k) :
    countExcursion l (s.setLine l ln) = s.setLine l (ln.counted s.wc) := by
  unfold countExcursion
  rw [setLine_line]
  dsimp only
  rw [if_neg hk, if_neg hc, setLine_setLine]
  rfl

variable (ln) in
theorem countExcursion_full (hk : ln.cfg.k ≠ 0) (hc : ln.chatterCount + 1 = ln.cfg.k) :
    countExcursion l (s.setLine l ln) = suppress l (s.setLine l (ln.counted s.wc)) := by
  unfold countExcursion
  rw [setLine_line]
  dsimp only
  rw [if_neg hk, if_pos hc, setLine_setLine]
  rfl

theorem suppress_unarmed (hm : s.mode ≠ .armed) :
    suppress l (s.setLine l ln) = s.setLine l (ln.suppress s.rc) := by
  unfold suppress
  rw [setLine_line]
  dsimp only
  rw [setLine_setLine]
  exact if_neg hm

theorem suppress_armed (hm : s.mode = .armed) : suppress l (s.setLine l ln) =
    raise chatterClass (.chatter (singleLine l))
      (appendTo ln.cfg.route { body := .chatter l ln.chatterCount ln.qualified, timestamp := s.time }
        (s.setLine l (ln.suppress s.rc))) := by
  unfold suppress
  rw [setLine_line]
  dsimp only
  rw [setLine_setLine]
  exact if_pos hm

/-! ### A raw change, by line state -/

theorem rawChange_idle (hst : s.lines[l].state = .idle) (hp : s.lines[l].pin ≠ pin) :
    rawChange l pin s = s.setLine l { s.lines[l] with pin, qualified := pin ^^ s.lines[l].cfg.invert } := by
  unfold rawChange
  rw [if_neg hp]
  dsimp only
  rw [hst]
  rfl

theorem departure_settles (hq : s.lines[l].cfg.qualify = .stable) (h0 : s.lines[l].cfg.q ≠ 0) :
    departure l s = s.setLine l { s.lines[l] with state := .settling s.time s.lines[l].cfg.q } := by
  unfold departure
  dsimp only
  rw [hq]
  exact if_neg h0

theorem rawChange_settles (hst : s.lines[l].state = .quiet) (hp : s.lines[l].pin ≠ pin)
    (hq : s.lines[l].cfg.qualify = .stable) (h0 : s.lines[l].cfg.q ≠ 0) :
    rawChange l pin s = s.setLine l { s.lines[l] with pin, state := .settling s.time s.lines[l].cfg.q } := by
  have line := setLine_line l { s.lines[l] with pin } s
  rw [rawChange_quiet hst hp, departure_settles (by rw [line]; exact hq) (by rw [line]; exact h0), line,
    setLine_setLine]
  rfl

theorem rawChange_settling {t0 t : Nat} (hst : s.lines[l].state = .settling t0 t) (hp : s.lines[l].pin ≠ pin) :
    rawChange l pin s = countExcursion l (s.setLine l { s.lines[l] with pin, state := .quiet }) := by
  unfold rawChange
  rw [if_neg hp]
  dsimp only
  rw [hst]

theorem rawChange_lockout {t : Nat} (hst : s.lines[l].state = .lockout t) (hp : s.lines[l].pin ≠ pin) :
    rawChange l pin s = if (pin ^^ s.lines[l].cfg.invert) = s.lines[l].qualified then
      countExcursion l (s.setLine l { s.lines[l] with pin }) else s.setLine l { s.lines[l] with pin } := by
  unfold rawChange
  rw [if_neg hp]
  dsimp only
  rw [hst]
  rfl

theorem rawChange_suppressed {t : Nat} (hst : s.lines[l].state = .suppressed t) (hp : s.lines[l].pin ≠ pin) :
    rawChange l pin s = s.setLine l { s.lines[l] with pin, state := .suppressed (1000 * s.rc) } := by
  unfold rawChange
  rw [if_neg hp]
  dsimp only
  rw [hst]

/-- The raw change that rejects an excursion and is counted is one of a SETTLING line, or of a line in LOCKOUT that
returns to its qualified level (R55, R58). -/
theorem rawChange_excursion (hp : s.lines[l].pin ≠ pin)
    (h : (∃ t0 t, s.lines[l].state = .settling t0 t) ∨
      ((∃ t, s.lines[l].state = .lockout t) ∧ (pin ^^ s.lines[l].cfg.invert) = s.lines[l].qualified)) :
    ∃ st, rawChange l pin s = countExcursion l (s.setLine l { s.lines[l] with pin, state := st }) := by
  obtain ⟨t0, t, hst⟩ | ⟨⟨t, hst⟩, hr⟩ := h
  · exact ⟨_, rawChange_settling hst hp⟩
  · refine ⟨s.lines[l].state, (rawChange_lockout hst hp).trans ?_⟩
    exact if_pos hr

/-! ### Expiries -/

theorem lockoutExpiry_agrees (hst : s.lines[l].state = .lockout 0) (he : s.lines[l].raw = s.lines[l].qualified) :
    lockoutExpiry l s = s.setLine l { s.lines[l] with state := .quiet } := by
  unfold lockoutExpiry
  dsimp only
  rw [hst]
  exact if_pos he

theorem releaseExpiry_agrees (hst : s.lines[l].state = .suppressed 0) (he : s.lines[l].raw = s.lines[l].qualified) :
    releaseExpiry l s = if s.mode = .armed then
        appendTo s.lines[l].cfg.route { body := .chatterEnd l s.lines[l].raw false, timestamp := s.time }
          (s.setLine l { s.lines[l] with state := .quiet, chatterCount := 0 })
      else s.setLine l { s.lines[l] with state := .quiet, chatterCount := 0 } := by
  have hne : (s.lines[l].raw != s.lines[l].qualified) = false := bne_eq_false_iff_eq.2 he
  unfold releaseExpiry
  dsimp only
  rw [hst, if_pos he, hne]
  rfl

/-! ### The events -/

theorem exec_rawChange (hs : s.inReset = false) :
    exec (.rawChange l pin) s = .next (closeEvent s (rawChange l pin s)) :=
  congrArg Host.Outcome.next (awake_running hs)

theorem exec_rawChange_line (hs : s.inReset = false) (h : rawChange l pin s = s.setLine l ln) :
    exec (.rawChange l pin) s = .next { s with lines := s.lines.set l ln } := by
  rw [exec_rawChange hs, h, closeEvent_setLine]
  rfl

end Lines

/-- Settles O36, state by state: the event of the raw change is an update of its line. -/
theorem rawChangeMovesLine : Obligations.RawChangeMovesLine := by
  intro s l pin hs ln raw becomes counted hp
  refine ⟨fun hst => ?_, fun hst hq h0 => ?_, fun t0 t hst => ⟨fun hk => ?_, fun hk hc => ?_⟩,
    fun t hst => ⟨fun h => ?_, fun hr hk hc => ?_⟩, fun t hst => ?_⟩
  · exact exec_rawChange_line hs (rawChange_idle hst hp)
  · exact exec_rawChange_line hs (rawChange_settles hst hp hq h0)
  · exact exec_rawChange_line hs ((rawChange_settling hst hp).trans (countExcursion_ignored hk))
  · exact exec_rawChange_line hs ((rawChange_settling hst hp).trans (countExcursion_counted hk hc))
  · refine exec_rawChange_line hs ((rawChange_lockout hst hp).trans ?_)
    obtain hr | hk := h
    · exact if_neg hr
    · exact ite_eq_right_iff.2 fun _ => countExcursion_ignored hk
  · exact exec_rawChange_line hs ((rawChange_lockout hst hp).trans ((if_pos hr).trans (countExcursion_counted hk hc)))
  · exact exec_rawChange_line hs (rawChange_suppressed hst hp)

/-- Settles O41, expiry by expiry. -/
theorem timersRunOut : Obligations.TimersRunOut := by
  intro s hs
  have taken : ∀ {f : State → State} {t : State}, f s = t →
      (.next (awake f s) : Host.Outcome State Fault Refusal) = .next t := fun e =>
    congrArg Host.Outcome.next ((awake_running hs).trans e)
  refine ⟨fun l hst he => taken ?_, fun l hw => taken (if_pos hw), fun id i g hp => taken ?_,
    fun n ht => taken (if_pos ht)⟩
  · rw [recording, lockoutExpiry_agrees hst he, closeEvent_setLine]
    rfl
  · unfold cooldownEnd
    rw [hp]
    rfl

/-! ### Events that ask one spool for one record -/

/-- The end of an event that changes a line, then asks spool `i` for a record, then raises classes. -/
theorem closeEvent_asked {raised : List ClassNo} {s v : State} {i : SpoolNo} {d : Draft}
    (spools : ∀ j : SpoolNo, v.spools[j] = if i = j then s.spools[i].appended s.time d else s.spools[j])
    (effects : MidEffects raised s v) :
    (∀ j : SpoolNo, (closeEvent s v).spools[j] =
      if i = j then Spool.atEventEnd s.spools[j] (s.spools[j].appended s.time d) else s.spools[j]) ∧
    SideEffects (nearFullClass :: raised) s (closeEvent s v) := by
  refine ⟨fun j => ?_, closeEvent_effects effects fun j => ?_⟩
  · rw [closeEvent_spool, spools]
    split
    · next h => subst h; rfl
    · exact Spool.atEventEnd_self _
  · rw [spools]
    split
    · next h => subst h; exact (Spool.append_keeps _ _ d).2.2.2.2.1
    · rfl

/-- Settles O40: the excursion that fills the count suppresses the line, and the expiry of its release timer ends it. -/
theorem lineSuppressedAndReleased : Obligations.LineSuppressedAndReleased := by
  intro s l hs
  refine ⟨fun pin hm hp hk hc hx => ?_, fun pin hm hp hk hc hx => ?_, fun hst he => ⟨fun hm => ?_, fun hm => ?_⟩⟩
  · obtain ⟨st, excursion⟩ := rawChange_excursion hp hx
    let line : Line := ({ s.lines[l] with pin, state := st }.counted s.wc).suppress s.rc
    let u := appendTo s.lines[l].cfg.route
      { body := .chatter l (s.lines[l].chatterCount + 1) s.lines[l].qualified, timestamp := s.time } (s.setLine l line)
    let v := raise chatterClass (.chatter (singleLine l)) u
    have suppressed : rawChange l pin s = v :=
      excursion.trans ((countExcursion_full { s.lines[l] with pin, state := st } hk hc).trans (suppress_armed hm))
    have asked : MidEffects [lossClass] s u := (blocks_effects _ s _ _ _).trans (appendTo_effects _ _ _)
    have only : StoreOnly (s.setLine l line) (closeEvent s v) :=
      ((appendTo_storeOnly _ _ _).trans (raise_storeOnly _ _ u)).trans (closeEvent_storeOnly s v)
    obtain ⟨spools, effects⟩ := closeEvent_asked (s := s) (v := v) (raised := [chatterClass, lossClass])
      (fun j => appendTo_spool _ j _ _) ((asked.mono (by simp)).trans ((raise_effects _ _ u).mono (by simp)))
    refine ⟨closeEvent s v, (exec_rawChange hs).trans (by rw [suppressed]), only.mode, only.time, only.groups, only.burst,
      only.lines.trans ?_, fun j => ?_, ?_, effects.mono (by simp)⟩
    · rw [← hc]
      rfl
    · rw [spools, ← hc]
    · rw [closeEvent_class (by decide), raise_class, if_pos rfl, asked.classes _ (by decide)]
      rfl
  · obtain ⟨st, excursion⟩ := rawChange_excursion hp hx
    have suppressed := excursion.trans
      ((countExcursion_full { s.lines[l] with pin, state := st } hk hc).trans (suppress_unarmed hm))
    refine (exec_rawChange_line hs suppressed).trans ?_
    rw [← hc]
    rfl
  · have released := (releaseExpiry_agrees hst he).trans (if_neg hm)
    refine congrArg Host.Outcome.next ((awake_running hs).trans ?_)
    rw [recording, released, closeEvent_setLine]
    rfl
  · let v := appendTo s.lines[l].cfg.route { body := .chatterEnd l s.lines[l].raw false, timestamp := s.time }
      (s.setLine l { s.lines[l] with state := .quiet, chatterCount := 0 })
    have released : releaseExpiry l s = v := (releaseExpiry_agrees hst he).trans (if_pos hm)
    have asked : StoreOnly (s.setLine l { s.lines[l] with state := .quiet, chatterCount := 0 }) v :=
      appendTo_storeOnly _ _ _
    obtain ⟨spools, effects⟩ := closeEvent_asked (s := s) (v := v) (fun j => appendTo_spool _ j _ _)
      ((blocks_effects _ s _ _ _).trans (appendTo_effects _ _ _))
    refine ⟨closeEvent s v, congrArg Host.Outcome.next ((awake_running hs).trans (congrArg (closeEvent s) released)),
      asked.trans (closeEvent_storeOnly s v), spools, effects.mono ?_⟩
    simp

end Sys2Proof.Machine
end

section
/-! A qualified change while ARMED in which no burst opens: of an unwatched line, and of a line whose groups log. -/

namespace Sys2Proof.Machine

/-! ### The records of the change itself -/

theorem edgeGoesTo_iff {s : State} {l : LineNo} {i : SpoolNo} : edgeGoesTo s l i = true ↔
    (s.lines[l].cfg.logEdges = true ∧ s.lines[l].cfg.route = i) ∨
      (s.lines[l].cfg.capture = true ∧ ∃ b, s.burst.phase = .isOpen b ∧ b.spool = i) := by
  unfold edgeGoesTo BurstPhase.open?
  cases s.burst.phase <;> simp

/-- The spool of a change after its own records: the CHATTER_END of a release, then the EDGE (R64, R65). -/
theorem changeSpool_eq (s : State) (c : Change) (level : Bool) (i : SpoolNo) : changeSpool s c level i =
    (if c.afterChatter = true ∧ s.lines[c.line].cfg.route = i then
        s.spools[i].appended s.time { body := .chatterEnd c.line level true, timestamp := s.time }
      else s.spools[i]).appendedAll s.time
      (if edgeGoesTo s c.line i then [changeDraft c (.edge c.line level)] else []) := by
  unfold changeSpool
  rw [Spool.appendedAll_append]
  congr 1
  by_cases h : c.afterChatter = true ∧ s.lines[c.line].cfg.route = i
  · rw [if_pos h, if_pos (by simpa using h)]
    rfl
  · rw [if_neg h, if_neg (by simpa using h)]
    rfl

theorem Recorded.erasing {s w : State} {c : Change} {level : Bool} {ln : Line} (h : Recorded s c level ln w)
    (i : SpoolNo) : w.spools[i].erasing = s.spools[i].erasing := by
  rw [h.spools]
  exact (Spool.appendedAll_keeps _ _ _).2.2

/-- A change of a line that no enabled group has as a member is not evaluated (R76). -/
theorem Recorded.evaluateGroups_unwatched {s w : State} {c : Change} {level : Bool} {ln : Line}
    (h : Recorded s c level ln w) (unwatched : watchedOnlyBy s c.line none) : evaluateGroups c w = w :=
  foldl_evaluateGroup_uncovered fun g _ => by
    rw [Evaluation.covers, h.groups, Bool.and_eq_false_iff]
    cases he : s.groups[g].cfg.enabled with
    | false => exact .inl rfl
    | true => exact .inr (unwatched g nofun he)

/-- Settles O38: the change is accepted and recorded, no group is evaluated, and the event ends. -/
theorem qualifiedChangeLogged : Obligations.QualifiedChangeLogged := by
  intro s cmd c level ln running armed accepts unwatched
  obtain ⟨u, executed, accepted⟩ := accepts_event running armed accepts
  obtain ⟨w, evaluated, hw⟩ := accepted.evaluated armed
  have ended := closeEvent_storeOnly s w
  refine ⟨closeEvent s w, ?_, ended.mode.trans hw.mode, ended.time.trans hw.time, ended.groups.trans hw.groups,
    ended.lines.trans hw.lines, ended.burst.trans hw.burst, fun i => ?_,
    (closeEvent_effects hw.effects hw.erasing).mono (by simp)⟩
  · rw [executed, evaluated, hw.evaluateGroups_unwatched unwatched]
  · rw [closeEvent_spool, hw.spools, changeSpool_eq]
    exact ⟨fun goes => by rw [if_pos (edgeGoesTo_iff.2 goes)]; rfl,
      fun stays => by rw [if_neg fun h => stays (edgeGoesTo_iff.1 h)]; rfl⟩

/-! ### The evaluations where no group of action BURST trips -/

namespace Evaluation

variable {s t : State} {e : Evaluation} {c : Change} {level : Bool} {g : GroupNo}

theorem record_congr (h : t.groups[g] = s.groups[g]) : e.record t c g = e.record s c g := by
  unfold record covers tripCount
  rw [h]

theorem trips_congr (h : t.groups[g] = s.groups[g]) : e.trips t c g = e.trips s c g := by
  unfold trips covers
  rw [h]

/-- The record of a trip (R80). -/
theorem record_of_trips (h : e.trips s c g = true) : e.record s c g =
    some (.trip g c.line (e.levels g) (tripCount s g) (e.disposition g).1 (e.disposition g).2) := by
  unfold trips at h
  rw [Bool.and_eq_true, Bool.and_eq_true, beq_iff_eq, Bool.not_eq_true'] at h
  obtain ⟨⟨hc, hst⟩, hok⟩ := h
  unfold record
  rw [hc, hst, hok]
  rfl

/-- A spool asked for the record of an evaluation, if there is one. -/
def asked (sp : Spool) (now : Nat) (c : Change) (body : Option RecordBody) : Spool :=
  sp.appendedAll now (body.map (changeDraft c)).toList

/-- One evaluation more at a spool. -/
theorem spool_next (i : SpoolNo) : e.spool s c level ((List.finRange 8).take (g.val + 1)) i =
    if s.groups[g].cfg.route = i then asked (e.spoolAt s c level g i) s.time c (e.record s c g)
    else e.spoolAt s c level g i := by
  unfold spoolAt spool
  rw [groups_take_succ, List.filterMap_append, Spool.appendedAll_append, List.filterMap_cons, List.filterMap_nil]
  by_cases h : s.groups[g].cfg.route = i
  · rw [if_pos h, if_pos h]
    unfold asked
    cases e.record s c g <;> rfl
  · rw [if_neg h, if_neg h]
    rfl

/-- The detail of a trip whose record, if it has one, is asked of spool `sp` on `route` (R80). -/
def detail (sp : Spool) (now : Nat) (route : SpoolNo) (c : Change) (g : GroupNo) (body : Option RecordBody) : Detail :=
  .trip (single g) 1 (body.bind fun body => (sp.append now (changeDraft c body)).placed.map fun q => (route, q))

/-- What an evaluation of group `g` that takes `u` to `v` leaves where it asks for no burst (R76, R78, R80). -/
structure Logged (e : Evaluation) (c : Change) (g : GroupNo) (u v : State) : Prop where
  burst : v.burst = u.burst
  spools : ∀ i : SpoolNo, v.spools[i] = if u.groups[g].cfg.route = i then
    asked u.spools[i] u.time c (e.record u c g) else u.spools[i]
  trip : v.notes.classes[tripClass] = if e.trips u c g then u.notes.classes[tripClass].take
      (detail u.spools[u.groups[g].cfg.route] u.time u.groups[g].cfg.route c g (e.record u c g))
    else u.notes.classes[tripClass]
  effects : MidEffects [tripClass, lossClass] u v

theorem logged (reads : e.Reads s g)
    (log : e.trips s c g = true → s.groups[g].cfg.action = .log ∧ e.disposition g = (.none, none)) :
    e.Logged c g s (evaluateGroup c g s) := by
  have set : ∀ gr, MidEffects [lossClass] s (s.setGroup g gr) := fun gr => blocks_effects _ s _ _ _
  cases h : e.trips s c g with
  | true =>
    obtain ⟨action, disposition⟩ := log h
    have draft : (tripOf g c s).record .none none =
        changeDraft c (.trip g c.line (e.levels g) (tripCount s g) .none none) := by
      rw [reads.levels]
      rfl
    have record := record_of_trips h
    rw [disposition] at record
    rw [(evaluateGroup_tripped reads h).1, tripGroup_log action, draft]
    have asked := (set _).trans (append_effects s.groups[g].cfg.route
      (changeDraft c (.trip g c.line (e.levels g) (tripCount s g) .none none)) (countTrip g c s))
    exact {
      burst := (append_storeOnly _ _ (countTrip g c s)).burst
      spools := fun i => by
        rw [raise_spools, append_spool, record]
        exact ite_congr rfl (fun e => by subst e; rfl) fun _ => rfl
      trip := by
        rw [raise_class, if_pos rfl, asked.classes _ (by decide), h, if_pos rfl, record]
        rfl
      effects := (asked.mono (by simp)).trans ((raise_effects _ _ _).mono (by simp)) }
  | false =>
    rw [evaluateGroup_untripped reads h]
    cases record : e.record s c g with
    | none =>
      exact {
        burst := rfl
        spools := fun i => by rw [record]; exact (ite_self _).symm
        trip := by rw [h]; rfl
        effects := (set _).mono (by simp) }
    | some body =>
      have asked := (set (e.group s c g)).trans (appendTo_effects s.groups[g].cfg.route (changeDraft c body) _)
      exact {
        burst := (appendTo_storeOnly _ _ (s.setGroup g (e.group s c g))).burst
        spools := fun i => by
          rw [appendTo_spool, record]
          exact ite_congr rfl (fun e => by subst e; rfl) fun _ => rfl
        trip := by rw [asked.classes _ (by decide), h]; rfl
        effects := asked.mono (by simp) }

/-- The TRIP class when the first `n` groups have been evaluated. -/
def tripNotesAt (e : Evaluation) (s : State) (c : Change) (level : Bool) (n : Nat) : NoteClass :=
  ((List.finRange 8).take n).foldl
    (fun k g => if e.trips s c g then k.take (e.tripDetail s c level g) else k) s.notes.classes[tripClass]

theorem tripNotesAt_succ (e : Evaluation) (s : State) (c : Change) (level : Bool) (g : GroupNo) :
    e.tripNotesAt s c level (g.val + 1) = if e.trips s c g then
      (e.tripNotesAt s c level g.val).take (e.tripDetail s c level g) else e.tripNotesAt s c level g.val := by
  unfold tripNotesAt
  rw [groups_take_succ, List.foldl_append]
  rfl

/-- `t` is the state in which the first `n` groups have been evaluated for a change accepted in `s`. -/
structure LoggedAt (e : Evaluation) (s : State) (c : Change) (level : Bool) (w : State) (n : Nat) (t : State) :
    Prop where
  evaluating : Evaluating w t
  groups : e.GroupsAt s c n t
  burst : t.burst = w.burst
  spools : ∀ i : SpoolNo, t.spools[i] = e.spool s c level ((List.finRange 8).take n) i
  trips : t.notes.classes[tripClass] = e.tripNotesAt s c level n
  effects : MidEffects [tripClass, lossClass] w t

end Evaluation

/-- The evaluations of a recorded change in which no group of action BURST trips (R76 to R78, R80 to R83). -/
theorem Recorded.evaluateGroups_logged {s w : State} {c : Change} {level : Bool} {ln : Line} {e : Evaluation}
    (h : Recorded s c level ln w) (he : e.ofChange s c level)
    (log : ∀ g, e.trips s c g = true → s.groups[g].cfg.action = .log ∧ e.disposition g = (.none, none)) :
    e.LoggedAt s c level w 8 (evaluateGroups c w) := by
  have shows : ShowsChange w.lines s c level := by
    rw [h.lines]
    exact showsChange_set s c level ln
  refine evaluateGroups_induction (P := e.LoggedAt s c level w) ?_ fun g u at_g => ?_
  · exact {
      evaluating := .refl w
      groups := fun g => by rw [h.groups]; rfl
      burst := rfl
      spools := fun i => by rw [h.spools]; rfl
      trips := h.effects.classes _ (by decide)
      effects := .refl _ w }
  · have own : u.groups[g] = s.groups[g] := (at_g.groups g).trans (if_neg (Nat.lt_irrefl _))
    have reads : e.Reads u g := by
      obtain ⟨levels, verdict⟩ := Evaluation.ofChange_eq he shows g
      exact ⟨by rw [own, at_g.evaluating.lines]; exact levels, by rw [own, at_g.evaluating.lines]; exact verdict⟩
    have time : u.time = s.time := at_g.evaluating.time.trans h.time
    obtain ⟨now, groups⟩ := evaluateGroup_evaluating (c := c) reads
    have one : e.Logged c g u (evaluateGroup c g u) := Evaluation.logged reads (by
      rw [Evaluation.trips_congr own, own]
      exact log g)
    exact {
      evaluating := at_g.evaluating.trans now
      groups := at_g.groups.next (Evaluation.group_congr own) groups
      burst := one.burst.trans at_g.burst
      spools := fun i => by
        rw [one.spools, own, Evaluation.record_congr own, time, at_g.spools, Evaluation.spool_next]
        rfl
      trips := by
        simp only [one.trip, Evaluation.trips_congr own, own, Evaluation.record_congr own, time, at_g.spools,
          at_g.trips, Evaluation.tripNotesAt_succ]
        rfl
      effects := at_g.effects.trans one.effects }

/-- What an evaluation leaves of its group, by the group's state (R76, R77). -/
theorem Evaluation.group_cases (e : Evaluation) (s : State) (c : Change) (g : GroupNo) :
    (s.groups[g].cfg.enabled = false ∨ s.groups[g].cfg.members.getLsbD c.line.val = false →
      e.group s c g = s.groups[g]) ∧
    (s.groups[g].cfg.enabled = true → s.groups[g].cfg.members.getLsbD c.line.val = true →
      (s.groups[g].state = .conforming → e.conforms g = false → e.group s c g =
        { s.groups[g] with state := .tripped c.time, tripCount := min (s.groups[g].tripCount + 1) 65535 }) ∧
      (∀ t0, s.groups[g].state = .tripped t0 → e.group s c g =
        { s.groups[g] with state := if e.conforms g then .conforming else .tripped t0 }) ∧
      (s.groups[g].state = .blocked → e.group s c g =
        { s.groups[g] with state := if e.conforms g then .conforming else .blocked })) := by
  unfold group covers
  refine ⟨fun h => ?_, fun he hm => ⟨fun hst hok => ?_, fun t0 hst => ?_, fun hst => ?_⟩⟩
  · rw [Bool.and_eq_false_iff.2 h]
    rfl
  · rw [he, hm, hst, hok]
    rfl
  · rw [he, hm, hst]
    cases e.conforms g
    · exact congrArg (fun st => { s.groups[g] with state := st }) hst
    · rfl
  · rw [he, hm, hst]
    cases e.conforms g
    · exact congrArg (fun st => { s.groups[g] with state := st }) hst
    · rfl

/-- Settles O39: the change is accepted and recorded, its groups are evaluated one after the other, and the event ends. -/
theorem groupFollowsPattern : Obligations.GroupFollowsPattern := by
  intro s cmd c level ln e running armed accepts he log
  obtain ⟨u, executed, accepted⟩ := accepts_event running armed accepts
  obtain ⟨w, evaluated, hw⟩ := accepted.evaluated armed
  have logged := hw.evaluateGroups_logged he log
  rw [evaluated] at executed
  generalize evaluateGroups c w = v at executed logged
  have ended := closeEvent_storeOnly s v
  have erasing : ∀ i : SpoolNo, v.spools[i].erasing = s.spools[i].erasing := fun i => by
    rw [logged.spools]
    exact (Spool.appendedAll_keeps _ _ _).2.2.trans (Spool.appendedAll_keeps _ _ _).2.2
  have effects : MidEffects [tripClass, lossClass] s v := (hw.effects.mono (by simp)).trans logged.effects
  refine ⟨closeEvent s v, executed, ended.mode.trans (logged.evaluating.mode.trans hw.mode),
    ended.time.trans (logged.evaluating.time.trans hw.time), ended.burst.trans (logged.burst.trans hw.burst),
    ended.lines.trans (logged.evaluating.lines.trans hw.lines), fun g => ?_, fun i => ?_, ?_,
    (closeEvent_effects effects erasing).mono (by simp)⟩
  · rw [ended.groups, logged.groups g, if_pos g.isLt]
    exact e.group_cases s c g
  · rw [closeEvent_spool, logged.spools]
    rfl
  · rw [closeEvent_class (by decide), logged.trips]
    rfl

end Sys2Proof.Machine
end

section
/-! What one step can do to the mode, the lines, the groups and the burst controller: the ways, each from its parts. -/

namespace Sys2Proof.Machine

/-- The blocks of which the laws of the modes, the lines and the groups speak. -/
structure Blocks where
  mode : Mode
  lines : Vector Line 32
  groups : Vector Group 8
  burst : BurstUnit

def State.blocks (s : State) : Blocks := ⟨s.mode, s.lines, s.groups, s.burst⟩

theorem StoreOnly.blocks {s t : State} (h : StoreOnly s t) : t.blocks = s.blocks := by
  unfold State.blocks
  rw [h.mode, h.lines, h.groups, h.burst]

/-! ### A line -/

/-- One line's part of the qualifier's law, by its state (R52 to R58, R62). -/
def Line.Sound (ln : Line) : Prop :=
  match ln.state with
  | .idle => ln.qualified = ln.raw ∧ ln.chatterCount = 0 ∧ ln.window = none
  | .quiet => ln.qualified = ln.raw
  | .settling _ _ => ln.cfg.qualify = .stable ∧ ln.qualified ≠ ln.raw
  | .lockout _ => ln.cfg.qualify = .latch
  | .suppressed _ => ln.window = none

/-- The qualifier's law is that of every line. -/
theorem lineLaw_iff {s : State} : LineLaw s ↔ ∀ l : LineNo, s.lines[l].Sound := by
  constructor
  · intro h l
    unfold Line.Sound
    split
    · next hst => exact ⟨h.level l (.inl hst), h.idle l hst⟩
    · next hst => exact h.level l (.inr hst)
    · next hst => exact h.settling l _ _ hst
    · next hst => exact h.lockout l _ hst
    · next hst => exact h.suppressed l _ hst
  · intro h
    have at_state : ∀ (l : LineNo) st, s.lines[l].state = st → ({ s.lines[l] with state := st } : Line).Sound := by
      rintro l _ rfl
      exact h l
    exact {
      level := fun l hst => hst.elim (fun hst => (at_state l _ hst).1) fun hst => at_state l _ hst
      settling := fun l t0 t hst => at_state l _ hst
      lockout := fun l t hst => at_state l _ hst
      idle := fun l hst => (at_state l _ hst).2
      suppressed := fun l t hst => at_state l _ hst }

/-- What an event that configures no line may make of a line: it stays in IDLE or out of it, and stays sound. -/
structure Line.Moves (ln ln' : Line) : Prop where
  cfg : ln'.cfg = ln.cfg
  idle : ln'.state = .idle ↔ ln.state = .idle
  sound : ln.Sound → ln'.Sound

namespace Line

variable {ln : Line}

theorem Moves.refl (ln : Line) : ln.Moves ln := ⟨rfl, .rfl, id⟩

/-- A sound line, its state written out. -/
theorem Sound.at_state (h : ln.Sound) {st : LineState} (hst : ln.state = st) : ({ ln with state := st } : Line).Sound := by
  subst hst
  exact h

theorem Sound.of_state {st : LineState} (hst : ln.state = st) (h : ({ ln with state := st } : Line).Sound) : ln.Sound := by
  subst hst
  exact h

/-- A line outside IDLE, before and after. -/
theorem Moves.active {ln' : Line} {st st' : LineState} (hst : ln.state = st) (hst' : ln'.state = st') (hi : st ≠ .idle)
    (hi' : st' ≠ .idle) (hcfg : ln'.cfg = ln.cfg) (sound : ({ ln with state := st } : Line).Sound → ln'.Sound) :
    ln.Moves ln' :=
  ⟨hcfg, iff_of_false (hst' ▸ hi') (hst ▸ hi), fun h => sound (h.at_state hst)⟩

theorem elapse_moves (n : Nat) (ln : Line) : ln.Moves (ln.elapse n) := by
  have window : ln.window = none → tickTimer n ln.window = none := fun hw => by rw [hw]; rfl
  have elapsed : ∀ st, ln.state = st → ln.elapse n = { ln with state := st.elapse n, window := tickTimer n ln.window } := by
    rintro _ rfl
    rfl
  cases hst : ln.state with
  | idle =>
    rw [elapsed _ hst]
    refine ⟨rfl, iff_of_true rfl hst, fun h => ?_⟩
    obtain ⟨level, count, hw⟩ := h.at_state hst
    exact ⟨level, count, window hw⟩
  | quiet => rw [elapsed _ hst]; exact .active hst rfl nofun nofun rfl id
  | settling t0 t => rw [elapsed _ hst]; exact .active hst rfl nofun nofun rfl id
  | lockout t => rw [elapsed _ hst]; exact .active hst rfl nofun nofun rfl id
  | suppressed t => rw [elapsed _ hst]; exact .active hst rfl nofun nofun rfl window

/-- A flip of the pin flips the raw level (R51). -/
theorem raw_flip {pin : Bool} (hp : ln.pin ≠ pin) : (pin ^^ ln.cfg.invert) = !ln.raw := by
  have : pin = !ln.pin := by cases pin <;> cases h : ln.pin <;> simp_all
  rw [this, raw]
  cases ln.pin <;> cases ln.cfg.invert <;> rfl

/-- An excursion counted on a line that stays in QUIET or LOCKOUT, and one that fills the count (R60, R62). -/
theorem Moves.excursion {u : Line} (h : ln.Moves u) (hu : u.state = .quiet ∨ ∃ t, u.state = .lockout t) (wc rc : Nat) :
    ln.Moves (u.counted wc) ∧ ln.Moves ((u.counted wc).suppress rc) := by
  have active : u.state ≠ .idle := by
    obtain hst | ⟨t, hst⟩ := hu <;> rw [hst] <;> nofun
  refine ⟨⟨h.cfg, h.idle, fun k => ?_⟩, ⟨h.cfg, iff_of_false nofun fun k => active (h.idle.2 k), fun _ => rfl⟩⟩
  obtain hst | ⟨t, hst⟩ := hu
  · exact .of_state (st := .quiet) hst ((h.sound k).at_state hst)
  · exact .of_state (st := .lockout t) hst ((h.sound k).at_state hst)

/-- A line at ARM is in IDLE only where it is disabled (R53). -/
theorem arm_moves (ln : Line) : (ln.Sound → ln.arm.Sound) ∧ ln.arm.cfg = ln.cfg ∧
    (ln.state = .idle → (ln.arm.state = .idle ↔ ln.cfg.enabled = false)) := by
  unfold arm
  split
  · next he => exact ⟨fun _ => rfl, rfl, fun _ => iff_of_false nofun (by rw [he]; nofun)⟩
  · next he => exact ⟨id, rfl, fun h => iff_of_true h (eq_false_of_ne_true he)⟩

theorem disarm_sound (ln : Line) : ln.disarm.Sound := ⟨rfl, rfl, rfl⟩

theorem configure_idle {cfg : LineConfig} (hst : ln.state = .idle) :
    ln.configure cfg = { ln with cfg, qualified := ln.pin ^^ cfg.invert } := if_pos hst

end Line

/-- Every way of a qualified change leaves its line sound (R54 to R59, R64). -/
theorem Accepts.moves {s : State} {cmd : Instr} {c : Change} {level : Bool} {ln : Line} (h : Accepts s cmd c level ln) :
    s.lines[c.line].Moves { ln with qualified := level } ∧ s.lines[c.line].state ≠ .idle := by
  cases h with
  | stable l pin hst hp hstable h0 =>
    exact ⟨.active hst hst nofun nofun rfl fun _ => .of_state (st := .quiet) hst rfl, by rw [hst]; nofun⟩
  | latch l pin hst hp hlatch =>
    refine ⟨?_, by rw [hst]; nofun⟩
    by_cases h0 : s.lines[l].cfg.q = 0
    · exact .active hst (if_pos h0) nofun nofun rfl fun _ => .of_state (st := .quiet) (if_pos h0) rfl
    · exact .active hst (if_neg h0) nofun nofun rfl fun _ =>
        .of_state (st := .lockout s.lines[l].cfg.q) (if_neg h0) hlatch
  | settled l t0 hst => exact ⟨.active hst rfl nofun nofun rfl fun _ => rfl, by rw [hst]; nofun⟩
  | late l hst hd => exact ⟨.active hst rfl nofun nofun rfl id, by rw [hst]; nofun⟩
  | released l hst hd => exact ⟨.active hst rfl nofun nofun rfl fun _ => rfl, by rw [hst]; nofun⟩

/-! ### A group -/

/-- A group after the evaluation of a change of line `l` that left the lines as `lines` (R76, R77). -/
structure Group.Follows (lines : Vector Line 32) (l : LineNo) (gr gr' : Group) : Prop where
  cfg : gr'.cfg = gr.cfg
  off : gr'.state = .off ↔ gr.state = .off
  watching : gr.cfg.enabled = true → gr.cfg.members.getLsbD l.val = true → gr.state ≠ .off →
    (gr'.state = .conforming ↔ conforms lines gr.cfg = true)
  other : gr.cfg.members.getLsbD l.val = false → gr'.state = gr.state

/-- An evaluation leaves a group that follows its members' levels (R75 to R77). -/
theorem Evaluation.group_follows {e : Evaluation} {s : State} {g : GroupNo} (reads : e.Reads s g) (c : Change) :
    s.groups[g].Follows s.lines c.line (e.group s c g) := by
  cases hc : Evaluation.covers s c g with
  | false =>
    have same : e.group s c g = s.groups[g] := by
      unfold Evaluation.group
      rw [hc]
      rfl
    rw [same]
    refine ⟨rfl, .rfl, fun he hm => ?_, fun _ => rfl⟩
    rw [Evaluation.covers, he, hm] at hc
    exact nomatch hc
  | true =>
    have member := (Bool.and_eq_true_iff.1 hc).2
    unfold Evaluation.group
    rw [hc, reads.verdict]
    cases hst : s.groups[g].state <;> cases hok : Machine.conforms s.lines s.groups[g].cfg
    case off.false | off.true => exact ⟨rfl, .rfl, fun _ _ k => absurd hst k, fun _ => rfl⟩
    case conforming.true => exact ⟨rfl, .rfl, fun _ _ _ => iff_of_true hst hok, fun _ => rfl⟩
    case tripped.false | blocked.false =>
      exact ⟨rfl, .rfl, fun _ _ _ => iff_of_false (fun k => nomatch hst.symm.trans k) (by rw [hok]; nofun), fun _ => rfl⟩
    case conforming.false =>
      exact ⟨rfl, iff_of_false nofun (by rw [hst]; nofun), fun _ _ _ => iff_of_false nofun (by rw [hok]; nofun),
        fun k => nomatch member.symm.trans k⟩
    case tripped.true | blocked.true =>
      exact ⟨rfl, iff_of_false nofun (by rw [hst]; nofun), fun _ _ _ => iff_of_true rfl hok,
        fun k => nomatch member.symm.trans k⟩

end Sys2Proof.Machine
end

section
/-! The laws of the modes, the lines and the groups, through every way the blocks can move. -/

namespace Sys2Proof.Machine

/-! ### The ways of the blocks -/

/-- An enabled group takes the state its members' levels give (R85, R86). -/
def Group.stand (lines : Vector Line 32) (gr : Group) : Group :=
  if gr.cfg.enabled then { gr with state := standingState lines gr.cfg } else gr

/-- A group with new reference levels; while ARMED an enabled one takes the state they give (R88, R89). -/
def Group.rewritten (mode : Mode) (lines : Vector Line 32) (reference : LineSet) (gr : Group) : Group :=
  { gr with
    cfg := { gr.cfg with reference },
    state := if mode = .armed ∧ gr.cfg.enabled = true then standingState lines { gr.cfg with reference } else gr.state }

/-- The burst controller without a burst, a cooldown and lookback entries (R111, R112, R114). -/
def BurstUnit.ended (b : BurstUnit) : BurstUnit := { b with phase := .idle, ring := [] }

namespace Blocks

/-- Modes, lines and group states are as before, and so is the burst controller, but that a burst may have closed or a
cooldown ended. -/
structure Alike (b b' : Blocks) : Prop where
  mode : b'.mode = b.mode
  lines : b'.lines = b.lines
  groups : ∀ g : GroupNo, b'.groups[g].cfg = b.groups[g].cfg ∧ b'.groups[g].state = b.groups[g].state
  ring : b'.burst.ring = b.burst.ring
  nextId : b'.burst.nextId = b.burst.nextId
  idle : b.burst.phase = .idle → b'.burst.phase = .idle
  shut : b.burst.phase.open? = none → b'.burst.phase.open? = none

/-- Everything a step can do to the blocks. -/
inductive Moves (b b' : Blocks) : Prop
  | alike (h : b.Alike b')
  | elapse (n : Nat) (h : b' = { b with
      lines := mapV (Line.elapse n) b.lines, burst := { b.burst with phase := b.burst.phase.elapse n } })
  /-- A line moves; while ARMED its qualified level stays, unless it is in IDLE. -/
  | line (l : LineNo) (ln : Line) (hl : b.lines[l].Moves ln)
      (level : b.mode = .armed → b.lines[l].state ≠ .idle → ln.qualified = b.lines[l].qualified)
      (h : b' = { b with lines := b.lines.set l ln })
  /-- A qualified change while ARMED. -/
  | change (l : LineNo) (ln : Line) (hl : b.lines[l].Moves ln) (armed : b.mode = .armed) (mode : b'.mode = b.mode)
      (lines : b'.lines = b.lines.set l ln) (groups : ∀ g : GroupNo, b.groups[g].Follows b'.lines l b'.groups[g])
      (burst : b.burst.Sound → b'.burst.Sound)
  | arm (setup : b.mode = .setup)
      (members : ∀ g : GroupNo, b.groups[g].cfg.enabled = true → ∀ l : LineNo,
        b.groups[g].cfg.members.getLsbD l.val = true → b.lines[l].cfg.enabled = true)
      (h : b' = { b with
        mode := .armed, lines := mapV Line.arm b.lines,
        groups := mapV (Group.stand (mapV Line.arm b.lines)) b.groups })
  | hold (armed : b.mode = .armed) (h : b' = { b with mode := .hold, burst := b.burst.ended })
  | resume (held : b.mode = .hold)
      (h : b' = { b with mode := .armed, groups := mapV (Group.stand b.lines) b.groups })
  /-- DISARM and soft RESET. -/
  | disarm (h : b' = {
      mode := .setup, lines := mapV Line.disarm b.lines, groups := mapV (fun gr => { gr with state := .off }) b.groups,
      burst := b.burst.ended })
  | setLine (l : LineNo) (cfg : LineConfig) (setup : b.mode = .setup)
      (h : b' = { b with lines := b.lines.set l (b.lines[l].configure cfg) })
  | setGroup (g : GroupNo) (cfg : GroupConfig) (setup : b.mode = .setup)
      (h : b' = { b with groups := b.groups.set g { b.groups[g] with cfg } })
  | setReference (g : GroupNo) (reference : LineSet)
      (h : b' = { b with groups := b.groups.set g (b.groups[g].rewritten b.mode b.lines reference) })
  /-- Pin reset and power-on. -/
  | reset (pins : LineSet) (speed : LinkSpeed) (h : b' = (State.atReset pins speed).blocks)

end Blocks

/-! ### The law of the modes -/

/-- A line is in IDLE exactly in SETUP or where it is disabled (R52, R53). -/
def Line.Suits (mode : Mode) (ln : Line) : Prop := ln.state = .idle ↔ (mode = .setup ∨ ln.cfg.enabled = false)

/-- A group is OFF exactly in SETUP or where it is disabled (R74). -/
def Group.Suits (mode : Mode) (gr : Group) : Prop := gr.state = .off ↔ (mode = .setup ∨ gr.cfg.enabled = false)

namespace Blocks

/-- The law of the modes, of the blocks. -/
structure Modal (b : Blocks) : Prop where
  lines : ∀ l : LineNo, b.lines[l].Suits b.mode
  groups : ∀ g : GroupNo, b.groups[g].Suits b.mode
  burst : b.burst.Sound
  unarmed : b.mode ≠ .armed → b.burst.phase = .idle ∧ b.burst.ring = []

end Blocks

theorem modeLaw_iff {s : State} : ModeLaw s ↔ s.blocks.Modal := by
  constructor
  · intro h
    exact {
      lines := h.lines
      groups := h.groups
      burst := ⟨h.ringSize, fun k => (h.ring k).2, h.nextId⟩
      unarmed := fun k => ⟨by_contra fun e => k (h.burst e), by_contra fun e => k (h.ring e).1⟩ }
  · intro h
    exact {
      lines := h.lines
      groups := h.groups
      burst := fun k => by_contra fun e => k (h.unarmed e).1
      ringSize := h.burst.size
      ring := fun k => ⟨by_contra fun e => k (h.unarmed e).2, h.burst.closed k⟩
      nextId := h.burst.nextId }

theorem standingState_ne_off (lines : Vector Line 32) (cfg : GroupConfig) : standingState lines cfg ≠ .off := by
  unfold standingState
  split <;> nofun

theorem standingState_conforming {lines : Vector Line 32} {cfg : GroupConfig} :
    standingState lines cfg = .conforming ↔ conforms lines cfg = true := by
  unfold standingState
  split
  · next h => exact iff_of_true rfl h
  · next h => exact iff_of_false nofun h

theorem Group.stand_cfg (lines : Vector Line 32) (gr : Group) : (gr.stand lines).cfg = gr.cfg := by
  unfold stand
  split <;> rfl

/-- Neither IDLE nor OFF depends on the mode outside SETUP. -/
theorem Line.Suits.mode {m m' : Mode} {ln : Line} (h : ln.Suits m) (hm : m ≠ .setup) (hm' : m' ≠ .setup) : ln.Suits m' :=
  h.trans (or_congr (iff_of_false hm hm') .rfl)

theorem Group.Suits.mode {m m' : Mode} {gr : Group} (h : gr.Suits m) (hm : m ≠ .setup) (hm' : m' ≠ .setup) :
    gr.Suits m' :=
  h.trans (or_congr (iff_of_false hm hm') .rfl)

theorem Line.Moves.suits {m : Mode} {ln ln' : Line} (h : ln.Moves ln') (k : ln.Suits m) : ln'.Suits m := by
  unfold Suits
  rw [h.idle, h.cfg]
  exact k

theorem Line.arm_suits {ln : Line} (h : ln.state = .idle) : ln.arm.Suits .armed := by
  obtain ⟨-, cfg, idle⟩ := ln.arm_moves
  unfold Suits
  rw [idle h, cfg]
  exact (or_iff_right nofun).symm

/-- A group that stands is OFF only where it is disabled (R85, R86). -/
theorem Group.stand_suits {lines : Vector Line 32} {gr : Group} (h : gr.cfg.enabled = false → gr.state = .off) :
    (gr.stand lines).Suits .armed := by
  refine Iff.trans ?_ (or_iff_right nofun).symm
  rw [Group.stand_cfg]
  unfold stand
  split
  · next he => exact iff_of_false (standingState_ne_off _ _) (by rw [he]; nofun)
  · next he => exact iff_of_true (h (eq_false_of_ne_true he)) (eq_false_of_ne_true he)

theorem Group.rewritten_suits {m : Mode} {lines : Vector Line 32} {reference : LineSet} {gr : Group} (h : gr.Suits m) :
    (gr.rewritten m lines reference).Suits m := by
  unfold rewritten
  split
  · next k =>
    refine iff_of_false (standingState_ne_off _ _) ?_
    rw [k.1, k.2]
    nofun
  · exact h

/-- What holds of every entry and of the new one holds of every entry after an update. -/
theorem forall_set {α : Type} {n : Nat} (P : α → Prop) {v : Vector α n} {i : Fin n} {a : α}
    (h : ∀ j : Fin n, P v[j]) (hi : P a) (j : Fin n) : P (v.set i a)[j] := by
  rw [Vector_set_get]
  split
  exacts [hi, h j]

/-- What holds of the image of every entry holds of every entry of a mapped vector. -/
theorem forall_mapV {α β : Type} {n : Nat} {P : β → Prop} {f : α → β} {v : Vector α n} (h : ∀ j : Fin n, P (f v[j]))
    (j : Fin n) : P (mapV f v)[j] := by
  rw [mapV_get]
  exact h j

theorem BurstUnit.Sound.ended {b : BurstUnit} (h : b.Sound) : b.ended.Sound :=
  ⟨Nat.zero_le _, fun k => absurd rfl k, h.nextId⟩

theorem BurstUnit.Sound.phase {b b' : BurstUnit} (h : b.Sound) (ring : b'.ring = b.ring) (nextId : b'.nextId = b.nextId)
    (shut : b.phase.open? = none → b'.phase.open? = none) : b'.Sound :=
  ⟨ring ▸ h.size, fun k => shut (h.closed (ring ▸ k)), nextId ▸ h.nextId⟩

theorem BurstPhase.elapse_shut {n : Nat} {p : BurstPhase} (h : p.open? = none) : (p.elapse n).open? = none := by
  cases p with
  | isOpen b => exact nomatch h
  | idle => rfl
  | cooldown => rfl

theorem Blocks.Modal.moves {b b' : Blocks} (h : b.Modal) (m : b.Moves b') : b'.Modal := by
  cases m with
  | alike k =>
    exact {
      lines := by rw [k.lines, k.mode]; exact h.lines
      groups := fun g => by
        obtain ⟨cfg, state⟩ := k.groups g
        unfold Group.Suits
        rw [cfg, state, k.mode]
        exact h.groups g
      burst := h.burst.phase k.ring k.nextId k.shut
      unarmed := fun e => by
        obtain ⟨idle, empty⟩ := h.unarmed (k.mode ▸ e)
        exact ⟨k.idle idle, k.ring.trans empty⟩ }
  | elapse n e =>
    subst e
    exact {
      lines := forall_mapV fun l => (b.lines[l].elapse_moves n).suits (h.lines l)
      groups := h.groups
      burst := h.burst.phase rfl rfl BurstPhase.elapse_shut
      unarmed := fun k => by
        obtain ⟨idle, empty⟩ := h.unarmed k
        exact ⟨congrArg (BurstPhase.elapse n) idle, empty⟩ }
  | line l ln hl level e =>
    subst e
    exact { h with lines := forall_set (Line.Suits b.mode) h.lines (hl.suits (h.lines l)) }
  | change l ln hl armed mode lines groups burst =>
    exact {
      lines := by
        rw [lines, mode]
        exact forall_set (Line.Suits b.mode) h.lines (hl.suits (h.lines l))
      groups := fun g => by
        unfold Group.Suits
        rw [(groups g).off, (groups g).cfg, mode]
        exact h.groups g
      burst := burst h.burst
      unarmed := fun k => absurd (mode.trans armed) k }
  | arm setup members e =>
    subst e
    exact {
      lines := forall_mapV fun l => Line.arm_suits ((h.lines l).2 (.inl setup))
      groups := forall_mapV fun g => Group.stand_suits fun _ => (h.groups g).2 (.inl setup)
      burst := h.burst
      unarmed := fun k => absurd rfl k }
  | hold armed e =>
    subst e
    have active : b.mode ≠ .setup := by rw [armed]; nofun
    exact {
      lines := fun l => (h.lines l).mode active nofun
      groups := fun g => (h.groups g).mode active nofun
      burst := h.burst.ended
      unarmed := fun _ => ⟨rfl, rfl⟩ }
  | resume held e =>
    subst e
    have active : b.mode ≠ .setup := by rw [held]; nofun
    exact {
      lines := fun l => (h.lines l).mode active nofun
      groups := forall_mapV fun g => Group.stand_suits fun he => (h.groups g).2 (.inr he)
      burst := h.burst
      unarmed := fun k => absurd rfl k }
  | disarm e =>
    subst e
    exact {
      lines := forall_mapV fun l => iff_of_true rfl (.inl rfl)
      groups := forall_mapV fun g => iff_of_true rfl (.inl rfl)
      burst := h.burst.ended
      unarmed := fun _ => ⟨rfl, rfl⟩ }
  | setLine l cfg setup e =>
    subst e
    have idle := (h.lines l).2 (.inl setup)
    refine { h with lines := forall_set (Line.Suits b.mode) h.lines ?_ }
    rw [Line.configure_idle idle]
    exact iff_of_true idle (.inl setup)
  | setGroup g cfg setup e =>
    subst e
    exact { h with
      groups := forall_set (Group.Suits b.mode) h.groups (iff_of_true ((h.groups g).2 (.inl setup)) (.inl setup)) }
  | setReference g reference e =>
    subst e
    exact { h with groups := forall_set (Group.Suits b.mode) h.groups (Group.rewritten_suits (h.groups g)) }
  | reset pins speed e =>
    subst e
    obtain ⟨-, -, law, -⟩ := lawsHoldAtReset pins speed
    exact modeLaw_iff.1 law

/-! ### The laws of the lines and the groups -/

/-- While ARMED an enabled group is CONFORMING exactly when every member stands at its reference level (R75). -/
def Group.Agrees (mode : Mode) (lines : Vector Line 32) (gr : Group) : Prop :=
  mode = .armed → gr.cfg.enabled = true → (gr.state = .conforming ↔ conforms lines gr.cfg = true)

/-- Every member of an enabled group is an enabled line (R85, R119). -/
def Group.Staffed (lines : Vector Line 32) (gr : Group) : Prop :=
  gr.cfg.enabled = true → ∀ l : LineNo, gr.cfg.members.getLsbD l.val = true → lines[l].cfg.enabled = true

/-- The law of the groups, of the blocks. -/
structure Blocks.Following (b : Blocks) : Prop where
  members : b.mode ≠ .setup → ∀ g : GroupNo, b.groups[g].Staffed b.lines
  agrees : ∀ g : GroupNo, b.groups[g].Agrees b.mode b.lines

theorem groupLaw_iff {s : State} : GroupLaw s ↔ s.blocks.Following := by
  constructor
  · intro h
    exact ⟨h.members, fun g hm he => (h.agrees hm g he).trans (conforms_iff _ _).symm⟩
  · intro h
    exact ⟨h.members, fun hm g he => (h.agrees g hm he).trans (conforms_iff _ _)⟩

/-- Whether a group conforms depends on its members' levels alone (R75). -/
theorem conforms_congr {lines lines' : Vector Line 32} {cfg : GroupConfig}
    (h : ∀ l : LineNo, cfg.members.getLsbD l.val = true → lines'[l].qualified = lines[l].qualified) :
    conforms lines' cfg = conforms lines cfg := by
  rw [Bool.eq_iff_iff, conforms_iff, conforms_iff]
  exact forall_congr' fun l => imp_congr_right fun hl => by rw [h l hl]

theorem Group.Staffed.congr {lines lines' : Vector Line 32} {gr gr' : Group} (h : gr.Staffed lines)
    (hl : ∀ l : LineNo, lines'[l].cfg = lines[l].cfg) (he : gr'.cfg.enabled = gr.cfg.enabled)
    (hm : gr'.cfg.members = gr.cfg.members) : gr'.Staffed lines' := fun k l m => by
  rw [hl]
  exact h (he ▸ k) l (hm ▸ m)

theorem set_cfg {lines : Vector Line 32} {l : LineNo} {ln : Line} (h : ln.cfg = lines[l].cfg) (k : LineNo) :
    (lines.set l ln)[k].cfg = lines[k].cfg := by
  rw [Vector_set_get]
  split
  · next e => subst e; exact h
  · rfl

/-- While ARMED a member of an enabled group is not in IDLE (R53, R85). -/
theorem Blocks.Following.member_active {b : Blocks} (h : b.Following) (modal : b.Modal) (armed : b.mode = .armed)
    {g : GroupNo} (he : b.groups[g].cfg.enabled = true) {l : LineNo}
    (hm : b.groups[g].cfg.members.getLsbD l.val = true) : b.lines[l].state ≠ .idle := fun idle => by
  have active : b.mode ≠ .setup := by rw [armed]; nofun
  have enabled := h.members active g he l hm
  rw [((modal.lines l).1 idle).resolve_left active] at enabled
  exact nomatch enabled

/-- A group that stands agrees with its members' levels (R85, R86). -/
theorem Group.stand_agrees (lines : Vector Line 32) (gr : Group) : (gr.stand lines).Agrees .armed lines := fun _ he => by
  rw [Group.stand_cfg] at he ⊢
  unfold stand
  rw [if_pos he]
  exact standingState_conforming

theorem Group.rewritten_agrees {mode : Mode} {lines : Vector Line 32} (reference : LineSet) (gr : Group) :
    (gr.rewritten mode lines reference).Agrees mode lines := fun hm he => by
  have armed : (gr.rewritten mode lines reference).state = standingState lines { gr.cfg with reference } :=
    if_pos ⟨hm, he⟩
  rw [armed]
  exact standingState_conforming

theorem Blocks.Following.moves {b b' : Blocks} (h : b.Following) (modal : b.Modal) (m : b.Moves b') : b'.Following := by
  cases m with
  | alike k =>
    exact {
      members := fun hm g => by
        obtain ⟨cfg, -⟩ := k.groups g
        exact (h.members (k.mode ▸ hm) g).congr (fun l => by rw [k.lines]) (by rw [cfg]) (by rw [cfg])
      agrees := fun g => by
        obtain ⟨cfg, state⟩ := k.groups g
        unfold Group.Agrees
        rw [cfg, state, k.mode, k.lines]
        exact h.agrees g }
  | elapse n e =>
    subst e
    exact {
      members := fun hm g => (h.members hm g).congr (fun l => by dsimp only; rw [mapV_get]; rfl) rfl rfl
      agrees := fun g hm he => by
        refine (h.agrees g hm he).trans (Eq.congr_left (conforms_congr fun l _ => ?_)).symm
        dsimp only
        rw [mapV_get]
        rfl }
  | line l ln hl level e =>
    subst e
    exact {
      members := fun hm g => (h.members hm g).congr (set_cfg hl.cfg) rfl rfl
      agrees := fun g hm he => by
        refine (h.agrees g hm he).trans (Eq.congr_left (conforms_congr fun k hk => ?_)).symm
        dsimp only
        rw [Vector_set_get]
        split
        · next e => subst e; exact level hm (h.member_active modal hm he hk)
        · rfl }
  | change l ln hl armed mode lines groups burst =>
    exact {
      members := fun hm g => (h.members (mode ▸ hm) g).congr (fun k => by rw [lines]; exact set_cfg hl.cfg k)
        (by rw [(groups g).cfg]) (by rw [(groups g).cfg])
      agrees := fun g _ he => by
        have follows := groups g
        rw [follows.cfg] at he ⊢
        cases hk : b.groups[g].cfg.members.getLsbD l.val with
        | true =>
          have off := modal.groups g
          refine follows.watching he hk fun k => ?_
          have disabled := (off.1 k).resolve_left (by rw [armed]; nofun)
          exact nomatch he.symm.trans disabled
        | false =>
          rw [follows.other hk]
          refine (h.agrees g armed he).trans (Eq.congr_left (conforms_congr fun k hm => ?_)).symm
          rw [lines, Vector_set_get, if_neg]
          rintro rfl
          exact nomatch hk.symm.trans hm }
  | arm setup members e =>
    subst e
    exact {
      members := fun _ => forall_mapV fun g => Group.Staffed.congr (gr := b.groups[g]) (members g)
        (fun l => by rw [mapV_get]; exact b.lines[l].arm_moves.2.1) (by rw [Group.stand_cfg]) (by rw [Group.stand_cfg])
      agrees := forall_mapV fun g => Group.stand_agrees _ _ }
  | hold armed e =>
    subst e
    have active : b.mode ≠ .setup := by rw [armed]; nofun
    exact ⟨fun _ => h.members active, fun g hm => nomatch hm⟩
  | resume held e =>
    subst e
    have active : b.mode ≠ .setup := by rw [held]; nofun
    exact {
      members := fun _ => forall_mapV fun g => (h.members active g).congr (fun _ => rfl)
        (by rw [Group.stand_cfg]) (by rw [Group.stand_cfg])
      agrees := forall_mapV fun g => Group.stand_agrees _ _ }
  | disarm e =>
    subst e
    exact ⟨fun hm => absurd rfl hm, fun g hm => nomatch hm⟩
  | setLine l cfg setup e =>
    subst e
    exact ⟨fun hm => absurd setup hm, fun g hm => nomatch setup.symm.trans hm⟩
  | setGroup g cfg setup e =>
    subst e
    exact ⟨fun hm => absurd setup hm, fun g hm => nomatch setup.symm.trans hm⟩
  | setReference g reference e =>
    subst e
    exact {
      members := fun hm => forall_set (Group.Staffed b.lines) (h.members hm) (h.members hm g)
      agrees := forall_set (Group.Agrees b.mode b.lines) h.agrees (Group.rewritten_agrees _ _) }
  | reset pins speed e =>
    subst e
    obtain ⟨-, -, -, -, law, -⟩ := lawsHoldAtReset pins speed
    exact groupLaw_iff.1 law

theorem LineLaw.sound {s : State} (h : LineLaw s) : ∀ l : LineNo, s.blocks.lines[l].Sound := lineLaw_iff.1 h

/-- Every line stays sound (R52 to R58, R62). -/
theorem Blocks.sound_moves {b b' : Blocks} (h : ∀ l : LineNo, b.lines[l].Sound) (modal : b.Modal) (m : b.Moves b') :
    ∀ l : LineNo, b'.lines[l].Sound := by
  cases m with
  | alike k => rw [k.lines]; exact h
  | elapse n e => subst e; exact forall_mapV fun l => (b.lines[l].elapse_moves n).sound (h l)
  | line l ln hl level e => subst e; exact forall_set Line.Sound h (hl.sound (h l))
  | change l ln hl armed mode lines => rw [lines]; exact forall_set Line.Sound h (hl.sound (h l))
  | arm setup members e => subst e; exact forall_mapV fun l => b.lines[l].arm_moves.1 (h l)
  | hold armed e => subst e; exact h
  | resume held e => subst e; exact h
  | disarm e => subst e; exact forall_mapV fun l => b.lines[l].disarm_sound
  | setLine l cfg setup e =>
    subst e
    have idle := (modal.lines l).2 (.inl setup)
    refine forall_set Line.Sound h ?_
    rw [Line.configure_idle idle]
    obtain ⟨-, count, window⟩ := (h l).at_state idle
    exact .of_state (st := .idle) idle ⟨rfl, count, window⟩
  | setGroup g cfg setup e => subst e; exact h
  | setReference g reference e => subst e; exact h
  | reset pins speed e =>
    obtain ⟨-, -, -, law, -⟩ := lawsHoldAtReset pins speed
    rw [e]
    generalize State.atReset pins speed = s at law
    exact law.sound

end Sys2Proof.Machine
end

section
/-! Every command moves the blocks in one of the ways of `Blocks.Moves`, and so no step breaks their laws. -/

namespace Sys2Proof.Machine

theorem closeBurst_storeOnly (reason : MarkReason) (askPin : Bool) (b : OpenBurst) (s : State) :
    StoreOnly s (closeBurst reason askPin b s) := ⟨rfl, rfl, rfl, rfl, rfl⟩

theorem endBurstEarly_blocks (reason : MarkReason) (s : State) :
    (endBurstEarly reason s).blocks = { s.blocks with burst := s.burst.ended } := by
  unfold endBurstEarly
  dsimp only
  split <;> rfl

theorem abandonBurst_blocks (s : State) : (abandonBurst s).blocks = { s.blocks with burst := s.burst.ended } := by
  unfold abandonBurst
  dsimp only
  split <;> rfl

theorem Group.rewritten_unarmed {mode : Mode} {lines : Vector Line 32} {reference : LineSet} {gr : Group}
    (h : ¬ (mode = .armed ∧ gr.cfg.enabled = true)) :
    gr.rewritten mode lines reference = { gr with cfg := { gr.cfg with reference } } :=
  congrArg (fun st => (⟨{ gr.cfg with reference }, st, gr.tripCount⟩ : Group)) (if_neg h)

theorem Group.rewritten_armed {mode : Mode} {lines : Vector Line 32} {reference : LineSet} {gr : Group}
    (h : mode = .armed ∧ gr.cfg.enabled = true) : gr.rewritten mode lines reference =
      { gr with cfg := { gr.cfg with reference }, state := standingState lines { gr.cfg with reference } } :=
  congrArg (fun st => (⟨{ gr.cfg with reference }, st, gr.tripCount⟩ : Group)) (if_pos h)

theorem referenceEvaluation_blocks (g : GroupNo) (s : State) : (recordingWith (referenceEvaluation g) s).1.blocks =
    { s.blocks with groups := s.groups.set g { s.groups[g] with state := standingState s.lines s.groups[g].cfg } } :=
  (closeEvent_storeOnly _ _).blocks.trans (appendTo_storeOnly _ _ _).blocks

theorem State.setLink_blocks (s : State) (l : Link) : (s.setLink l).blocks = s.blocks := rfl

/-- An ARM that passes its validation finds every member of an enabled group enabled (R119). -/
theorem armFailure_none {s : State} (h : armFailure s = none) (g : GroupNo) : s.groups[g].Staffed s.lines := by
  have passed : groupFault s g = none := by
    unfold armFailure at h
    simp only [Option.orElse_eq_orElse, Option.orElse_eq_or, Option.or_eq_none_iff, List.findSome?_eq_none_iff] at h
    obtain ⟨-, groups, -⟩ := h
    exact groups g (List.mem_finRange g)
  intro he l hl
  have some_member : s.groups[g].cfg.members ≠ 0 := fun e => by
    rw [e] at hl
    exact nomatch (BitVec.getLsbD_zero.symm.trans hl)
  unfold groupFault at passed
  dsimp only at passed
  rw [if_neg (by rw [he]; nofun), if_neg some_member] at passed
  split at passed
  · exact nomatch passed
  · next found =>
    have each := List.find?_eq_none.1 found l (List.mem_finRange l)
    cases enabled : s.lines[l].cfg.enabled with
    | true => rfl
    | false => exact absurd (by rw [hl, enabled]; rfl) each

namespace Blocks.Moves

variable {s t : State}

theorem of_eq {b b' : Blocks} (h : b' = b) : b.Moves b' := by
  subst h
  exact .alike ⟨rfl, rfl, fun _ => ⟨rfl, rfl⟩, rfl, rfl, id, id⟩

theorem of_storeOnly (h : StoreOnly s t) : s.blocks.Moves t.blocks := of_eq h.blocks

theorem awake {f : State → State} (h : s.inReset = false → s.blocks.Moves (f s).blocks) :
    s.blocks.Moves (awake f s).blocks := by
  unfold Machine.awake
  split
  · exact of_eq rfl
  · next hs => exact h (eq_false_of_ne_true hs)

/-- A request moves the blocks as its meaning does: taking and answering it is the link's (R181). -/
theorem serve {row : Instr} {f : List Byte → State → State × Reply} (h : ∀ p (u : State), u.blocks.Moves (f p u).1.blocks)
    (s : State) : s.blocks.Moves (serve row f s).blocks := by
  obtain ⟨r, rest, -, -, e⟩ | ⟨-, e⟩ := serve_cases row f s <;> rw [e]
  exacts [h r.payload (s.taking rest), of_eq rfl]

theorem recording {f : State → State} (h : s.blocks.Moves (f s).blocks) : s.blocks.Moves (recording f s).blocks := by
  rw [Machine.recording, (closeEvent_storeOnly s (f s)).blocks]
  exact h

theorem ite_request {c : Prop} [Decidable c] {r r' : State × Reply} (h : c → s.blocks.Moves r.1.blocks)
    (k : ¬ c → s.blocks.Moves r'.1.blocks) : s.blocks.Moves (if c then r else r').1.blocks := by
  split
  exacts [h ‹_›, k ‹_›]

theorem withFields {α : Type} {fields : Option α} {k : α → State → State × Reply}
    (h : ∀ a, s.blocks.Moves (k a s).1.blocks) : s.blocks.Moves (withFields fields k s).1.blocks := by
  cases fields
  exacts [of_eq rfl, h _]

theorem inSetup {k : State → State × Reply} (h : s.mode = .setup → s.blocks.Moves (k s).1.blocks) :
    s.blocks.Moves (inSetup k s).1.blocks := ite_request h fun _ => of_eq rfl

/-- The burst controller alone differs, in its settings or by the end of a burst or of a cooldown. -/
theorem of_burst {b : BurstUnit} (h : t.blocks = { s.blocks with burst := b }) (ring : b.ring = s.burst.ring)
    (nextId : b.nextId = s.burst.nextId) (idle : s.burst.phase = .idle → b.phase = .idle)
    (shut : s.burst.phase.open? = none → b.phase.open? = none) : s.blocks.Moves t.blocks := by
  rw [h]
  exact .alike ⟨rfl, rfl, fun _ => ⟨rfl, rfl⟩, ring, nextId, idle, shut⟩

/-! ### Bursts -/

theorem of_phase {p : BurstPhase} (h : StoreOnly s t) (idle : s.burst.phase = .idle → p = .idle)
    (shut : s.burst.phase.open? = none → p.open? = none) : s.blocks.Moves (t.setPhase p).blocks :=
  of_burst (b := { s.burst with phase := p }) (by
    unfold State.blocks
    rw [State.setPhase_mode, h.mode, State.setPhase_lines, h.lines, State.setPhase_groups, h.groups]
    exact congrArg (fun b : BurstUnit => (⟨_, _, _, { b with phase := p }⟩ : Blocks)) h.burst) rfl rfl idle shut

theorem deadline (s : State) : s.blocks.Moves (deadline s).blocks := by
  unfold Machine.deadline
  split
  · next b hb =>
    split
    · exact of_phase (closeBurst_storeOnly _ _ b s) (fun k => nomatch hb.symm.trans k)
        fun k => by rw [hb] at k; exact nomatch k
    · exact of_eq rfl
  · exact of_eq rfl

theorem cooldownEnd (s : State) : s.blocks.Moves (cooldownEnd s).blocks := by
  unfold Machine.cooldownEnd
  split
  · split
    exacts [of_phase (.refl s) (fun _ => rfl) fun _ => rfl, of_eq rfl]
  · exact of_eq rfl

theorem startErase (i : SpoolNo) (s : State) : s.blocks.Moves (startErase i s).blocks := by
  refine of_burst (b := { s.burst with phase := if s.burst.phase.isOn i then .idle else s.burst.phase }) ?_ rfl rfl
    (fun k => ?_) fun k => ?_
  · exact congrArg State.blocks (startErase_frame i s)
  · split
    exacts [rfl, k]
  · split
    exacts [rfl, k]

/-! ### Requests of the recording blocks -/

theorem recordMode (m : Mode) (cause : ModeCause) (h : s.blocks.Moves t.blocks) :
    s.blocks.Moves (recordMode m cause t).blocks := by
  rw [Machine.recordMode, (appendToAll_storeOnly (modeDraft m cause t) t).blocks]
  exact h

theorem armRequest (p : List Byte) (s : State) : s.blocks.Moves (armRequest p s).1.blocks :=
  inSetup fun setup => by
    split
    · exact of_eq rfl
    · next passed => exact recording (recordMode .armed .arm (.arm setup (armFailure_none passed) rfl))

theorem holdRequest (p : List Byte) (s : State) : s.blocks.Moves (holdRequest p s).1.blocks :=
  ite_request (fun armed => recording (recordMode .hold .hold (.hold armed
    (congrArg (fun b : Blocks => { b with mode := .hold }) (endBurstEarly_blocks .held s)))))
    fun _ => of_eq rfl

theorem resumeRequest (p : List Byte) (s : State) : s.blocks.Moves (resumeRequest p s).1.blocks :=
  ite_request (fun held => recording (recordMode .armed .resume (.resume held rfl))) fun _ => of_eq rfl

/-- The lines go to IDLE and the groups OFF once the burst is over (R53, R87, R124, R128). -/
theorem disarmed (h : t.blocks = { s.blocks with burst := s.burst.ended }) :
    s.blocks.Moves (groupsOff (disarmLines (t.setMode .setup))).blocks :=
  .disarm (congrArg (fun b : Blocks => (⟨.setup, mapV Line.disarm b.lines,
    mapV (fun gr : Group => { gr with state := .off }) b.groups, b.burst⟩ : Blocks)) h)

theorem disarmRequest (p : List Byte) (s : State) : s.blocks.Moves (disarmRequest p s).1.blocks :=
  ite_request (fun _ => of_eq rfl) fun _ =>
    recording (recordMode .setup .disarm (disarmed (endBurstEarly_blocks .disarmed s)))

theorem resetRequest (p : List Byte) (s : State) : s.blocks.Moves (resetRequest p s).1.blocks := by
  have dropped : s.blocks.Moves (Machine.recording resetRecording s).blocks := recording (disarmed (abandonBurst_blocks s))
  have links : ∀ t : State, (resetNotes (resetReadout t)).blocks = t.blocks := fun _ => rfl
  rw [Machine.resetRequest, softReset, links]
  exact dropped

theorem setLineRequest (p : List Byte) (s : State) : s.blocks.Moves (setLineRequest p s).1.blocks :=
  withFields fun f => inSetup fun setup => .setLine f.1 f.2 setup rfl

theorem setGroupRequest (p : List Byte) (s : State) : s.blocks.Moves (setGroupRequest p s).1.blocks :=
  withFields fun f => inSetup fun setup => .setGroup f.1 f.2 setup rfl

theorem setBurstRequest (p : List Byte) (s : State) : s.blocks.Moves (setBurstRequest p s).1.blocks :=
  withFields fun _ => inSetup fun _ => of_burst rfl rfl rfl id id

theorem setTimeRequest (p : List Byte) (s : State) : s.blocks.Moves (setTimeRequest p s).1.blocks := by
  refine recording (f := stepTime (field p 1 6)) (of_eq ?_)
  unfold stepTime
  dsimp only
  split
  · exact (appendToAll_storeOnly _ _).blocks
  · rfl

theorem setReferenceRequest (p : List Byte) (s : State) : s.blocks.Moves (setReferenceRequest p s).1.blocks :=
  withFields fun ⟨g, levels⟩ => by
    have stored : (storeReference g levels s).groups[g] =
        { s.groups[g] with cfg := { s.groups[g].cfg with reference := levels &&& s.groups[g].cfg.members } } :=
      (Vector_set_get s.groups g g _).trans (if_pos rfl)
    refine ite_request (fun h => .setReference g (levels &&& s.groups[g].cfg.members) ?_) fun h =>
      .setReference g (levels &&& s.groups[g].cfg.members) ?_ <;> rw [stored] at h
    · refine (referenceEvaluation_blocks g _).trans ?_
      rw [stored]
      refine Eq.trans (congrArg (fun gs => (⟨s.mode, s.lines, gs, s.burst⟩ : Blocks)) (Vector.set_set ..)) ?_
      exact congrArg (fun gr => (⟨s.mode, s.lines, s.groups.set g gr, s.burst⟩ : Blocks)) (Group.rewritten_armed h).symm
    · exact congrArg (fun gr => (⟨s.mode, s.lines, s.groups.set g gr, s.burst⟩ : Blocks)) (Group.rewritten_unarmed h).symm

theorem getCountersRequest (p : List Byte) (s : State) : s.blocks.Moves (getCountersRequest p s).1.blocks :=
  withFields fun clear => by
    cases clear with
    | false => exact of_eq rfl
    | true => exact .alike ⟨rfl, rfl, fun g => by
        have cleared : (clearCounters s).groups[g] = { s.groups[g] with tripCount := 0 } := mapV_get _ _ _
        show (clearCounters s).groups[g].cfg = _ ∧ (clearCounters s).groups[g].state = _
        rw [cleared]
        exact ⟨rfl, rfl⟩, rfl, rfl, id, id⟩

theorem takeErase (s : State) : s.blocks.Moves (takeErase s).blocks := by
  unfold Machine.takeErase
  split
  · next r rest _ =>
    split
    · dsimp only
      split
      · next i _ _ =>
        have started : (s.taking rest).blocks.Moves (Machine.recording (Machine.startErase i) (s.taking rest)).blocks :=
          recording (startErase i _)
        rw [State.setLink_blocks]
        exact started
      · exact of_eq rfl
    · exact of_eq rfl
  · exact of_eq rfl

end Blocks.Moves

end Sys2Proof.Machine
end

section
/-! The events of a line move the blocks in one of the ways of `Blocks.Moves`, and with them every step. -/

namespace Sys2Proof.Machine

theorem changeRing_sound {s : State} {c : Change} {level : Bool} (h : s.burst.Sound) :
    { s.burst with ring := changeRing s c level : BurstUnit }.Sound := by
  unfold changeRing
  split
  · next entered =>
    refine ⟨?_, fun _ => entered.2, h.nextId⟩
    show (List.drop _ _).length ≤ 16
    rw [List.length_drop, List.length_append, List.length_singleton]
    omega
  · exact h

theorem Line.Sound.windowOver {ln : Line} (h : ln.Sound) : ({ ln with chatterCount := 0, window := none } : Line).Sound := by
  cases hst : ln.state with
  | idle => exact ⟨(h.at_state hst).1, rfl, rfl⟩
  | quiet => exact h.at_state hst
  | settling t0 t => exact h.at_state hst
  | lockout t => exact h.at_state hst
  | suppressed t => exact rfl

namespace Blocks.Moves

variable {s t : State} {l : LineNo} {ln : Line}

theorem updateLine (hl : s.lines[l].Moves ln)
    (level : s.lines[l].state ≠ .idle → ln.qualified = s.lines[l].qualified) :
    s.blocks.Moves (s.setLine l ln).blocks :=
  .line l ln hl (fun _ => level) rfl

/-- A qualified change moves its line and, while ARMED, the groups that watch it (R65, R67). -/
theorem accepts {cmd : Instr} {c : Change} {level : Bool} (hs : s.inReset = false) (h : Accepts s cmd c level ln)
    (e : exec cmd s = .next t) : s.blocks.Moves t.blocks := by
  obtain ⟨moves, active⟩ := h.moves
  by_cases armed : s.mode = .armed
  · obtain ⟨u, event, accepted⟩ := accepts_event hs armed h
    obtain ⟨w, evaluated, recorded⟩ := accepted.evaluated armed
    obtain ⟨kept, groups⟩ := evaluateGroups_evaluating (s := w) (c := c)
      (e := Evaluation.ofLines w.lines w fun _ => (.none, none)) fun g => ⟨rfl, rfl⟩
    obtain rfl := next_eq (event.symm.trans e)
    rw [(closeEvent_storeOnly s _).blocks, evaluated]
    generalize evaluateGroups c w = v at kept groups
    have lines := kept.lines.trans recorded.lines
    refine .change c.line { ln with qualified := level } moves armed (kept.mode.trans recorded.mode) lines (fun g => ?_)
      fun sound => kept.burst ?_
    · have follows := Evaluation.group_follows (s := w) (g := g)
        (e := Evaluation.ofLines w.lines w fun _ => (.none, none)) ⟨rfl, rfl⟩ c
      rw [← groups g, recorded.groups, ← kept.lines] at follows
      exact follows
    · rw [recorded.burst]
      exact changeRing_sound sound
  · obtain rfl := next_eq ((accepts_event_unarmed hs armed h).symm.trans e)
    rw [closeEvent_setLine]
    exact .line c.line { ln with qualified := level } moves (fun k => absurd k armed) rfl

/-- An excursion counted on a line that stays in QUIET or LOCKOUT (R60, R62). -/
theorem countExcursion (hl : s.lines[l].Moves ln) (hst : ln.state = .quiet ∨ ∃ t, ln.state = .lockout t)
    (level : ln.qualified = s.lines[l].qualified) : s.blocks.Moves (countExcursion l (s.setLine l ln)).blocks := by
  obtain ⟨counted, suppressed⟩ := hl.excursion hst s.wc s.rc
  by_cases hk : ln.cfg.k = 0
  · rw [countExcursion_ignored hk]
    exact updateLine hl fun _ => level
  · by_cases hc : ln.chatterCount + 1 = ln.cfg.k
    · rw [countExcursion_full ln hk hc]
      by_cases armed : s.mode = .armed
      · rw [suppress_armed armed, (raise_storeOnly _ _ _).blocks, (appendTo_storeOnly _ _ _).blocks]
        exact updateLine suppressed fun _ => level
      · rw [suppress_unarmed armed]
        exact updateLine suppressed fun _ => level
    · rw [countExcursion_counted hk hc]
      exact updateLine counted fun _ => level

theorem rawChange (pin : Bool) (hs : s.inReset = false) : s.blocks.Moves (Machine.recording (rawChange l pin) s).blocks := by
  have event : exec (.rawChange l pin) s = .next (Machine.recording (Machine.rawChange l pin) s) := exec_rawChange hs
  by_cases hp : s.lines[l].pin = pin
  · exact recording (of_eq (congrArg State.blocks (if_pos hp)))
  cases hst : s.lines[l].state with
  | idle =>
    refine recording ?_
    rw [rawChange_idle hst hp]
    refine updateLine ⟨rfl, .rfl, fun h => ?_⟩ fun k => absurd hst k
    obtain ⟨-, count, window⟩ := h.at_state hst
    exact .of_state (st := .idle) hst ⟨rfl, count, window⟩
  | quiet =>
    cases hq : s.lines[l].cfg.qualify with
    | stable =>
      by_cases h0 : s.lines[l].cfg.q = 0
      · exact accepts hs (.stable l pin hst hp hq h0) event
      · refine recording ?_
        rw [rawChange_settles hst hp hq h0]
        refine updateLine (.active hst rfl nofun nofun rfl fun (h : _ = _) => ⟨hq, fun k => ?_⟩) fun _ => rfl
        have flipped := Line.raw_flip hp
        exact Bool.not_ne_self _ (flipped.symm.trans (k.symm.trans h))
    | latch => exact accepts hs (.latch l pin hst hp hq) event
  | settling t0 t =>
    refine recording ?_
    rw [rawChange_settling hst hp]
    refine countExcursion (.active hst rfl nofun nofun rfl fun ⟨_, off⟩ => ?_) (.inl rfl) rfl
    have flipped := Line.raw_flip hp
    exact (Bool.eq_not_of_ne off).trans flipped.symm
  | lockout t =>
    have moves : s.lines[l].Moves { s.lines[l] with pin } :=
      .active hst hst nofun nofun rfl fun h => .of_state (st := .lockout t) hst h
    refine recording ?_
    rw [rawChange_lockout hst hp]
    split
    · exact countExcursion moves (.inr ⟨t, hst⟩) rfl
    · exact updateLine moves fun _ => rfl
  | suppressed t =>
    refine recording ?_
    rw [rawChange_suppressed hst hp]
    exact updateLine (.active hst rfl nofun nofun rfl id) fun _ => rfl

theorem settlingExpiry (hs : s.inReset = false) : s.blocks.Moves (Machine.recording (settlingExpiry l) s).blocks := by
  by_cases due : ∃ t0, s.lines[l].state = .settling t0 0
  · obtain ⟨t0, hst⟩ := due
    exact accepts hs (.settled l t0 hst) (congrArg Host.Outcome.next (awake_running hs))
  · refine recording (of_eq (congrArg State.blocks ?_))
    unfold Machine.settlingExpiry
    dsimp only
    split
    · next t0 hst => exact absurd ⟨t0, hst⟩ due
    · rfl

theorem lockoutExpiry (hs : s.inReset = false) : s.blocks.Moves (Machine.recording (lockoutExpiry l) s).blocks := by
  by_cases hst : s.lines[l].state = .lockout 0
  · by_cases he : s.lines[l].raw = s.lines[l].qualified
    · refine recording ?_
      rw [lockoutExpiry_agrees hst he]
      exact updateLine (.active hst rfl nofun nofun rfl fun _ => he.symm) fun _ => rfl
    · exact accepts hs (.late l hst he) (congrArg Host.Outcome.next (awake_running hs))
  · refine recording (of_eq (congrArg State.blocks ?_))
    unfold Machine.lockoutExpiry
    dsimp only
    split
    · next k => exact absurd k hst
    · rfl

theorem windowExpiry : s.blocks.Moves (windowExpiry l s).blocks := by
  unfold Machine.windowExpiry
  dsimp only
  split
  · exact updateLine ⟨rfl, .rfl, .windowOver⟩ fun _ => rfl
  · exact of_eq rfl

theorem releaseExpiry (hs : s.inReset = false) : s.blocks.Moves (Machine.recording (releaseExpiry l) s).blocks := by
  by_cases hst : s.lines[l].state = .suppressed 0
  · by_cases he : s.lines[l].raw = s.lines[l].qualified
    · have released : s.blocks.Moves (s.setLine l { s.lines[l] with state := .quiet, chatterCount := 0 }).blocks :=
        updateLine (.active hst rfl nofun nofun rfl fun _ => he.symm) fun _ => rfl
      refine recording ?_
      rw [releaseExpiry_agrees hst he]
      split
      · rw [(appendTo_storeOnly _ _ _).blocks]
        exact released
      · exact released
    · exact accepts hs (.released l hst he) (congrArg Host.Outcome.next (awake_running hs))
  · refine recording (of_eq (congrArg State.blocks ?_))
    unfold Machine.releaseExpiry
    dsimp only
    split
    · next k => exact absurd k hst
    · rfl

/-! ### Every command -/

/-- A request that asks nothing of the recording blocks. -/
theorem quiet {row : Instr} {f : List Byte → State → State × Reply} (h : ∀ u p, StoreOnly u (f p u).1) (s : State) :
    s.blocks.Moves (Machine.awake (Machine.serve row f) s).blocks := .awake fun _ => of_storeOnly (.serve (fun p u => h u p) s)

/-- A request of the recording blocks. -/
theorem request {row : Instr} {f : List Byte → State → State × Reply}
    (h : ∀ p (u : State), u.blocks.Moves (f p u).1.blocks) (s : State) :
    s.blocks.Moves (Machine.awake (Machine.serve row f) s).blocks := .awake fun _ => .serve h s

theorem exec {c : Instr} (e : exec c s = .next t) : s.blocks.Moves t.blocks := by
  cases c with
  | arm => exact next_eq e ▸ request armRequest s
  | hold => exact next_eq e ▸ request holdRequest s
  | resume => exact next_eq e ▸ request resumeRequest s
  | disarm => exact next_eq e ▸ request disarmRequest s
  | reset => exact next_eq e ▸ request resetRequest s
  | setLine => exact next_eq e ▸ request setLineRequest s
  | setChatter => exact next_eq e ▸ quiet StoreOnly.setChatter s
  | setGroup => exact next_eq e ▸ request setGroupRequest s
  | setReference => exact next_eq e ▸ request setReferenceRequest s
  | setSpool => exact next_eq e ▸ quiet StoreOnly.setSpool s
  | setBurst => exact next_eq e ▸ request setBurstRequest s
  | setNote => exact next_eq e ▸ quiet StoreOnly.setNote s
  | setTime => exact next_eq e ▸ request setTimeRequest s
  | getTime => exact next_eq e ▸ quiet (fun u _ => .refl u) s
  | cut => exact next_eq e ▸ quiet StoreOnly.cut s
  | release => exact next_eq e ▸ quiet StoreOnly.release s
  | pin => exact next_eq e ▸ quiet StoreOnly.pin s
  | unpin => exact next_eq e ▸ quiet StoreOnly.unpin s
  | erase => exact next_eq e ▸ .awake fun _ => takeErase s
  | getSpool => exact next_eq e ▸ quiet StoreOnly.getSpool s
  | openCursor => exact next_eq e ▸ quiet StoreOnly.openCursor s
  | closeCursor => exact next_eq e ▸ quiet StoreOnly.closeCursor s
  | read => exact next_eq e ▸ quiet StoreOnly.read s
  | space => exact next_eq e ▸ quiet StoreOnly.space s
  | skip => exact next_eq e ▸ quiet StoreOnly.skip s
  | stream => exact next_eq e ▸ quiet StoreOnly.stream s
  | stopStream => exact next_eq e ▸ quiet StoreOnly.stopStream s
  | listSegments => exact next_eq e ▸ quiet StoreOnly.listSegments s
  | credit => exact next_eq e ▸ quiet StoreOnly.credit s
  | ackNote => exact next_eq e ▸ quiet StoreOnly.ackNote s
  | getStatus => exact next_eq e ▸ quiet (fun u _ => .refl u) s
  | getCounters => exact next_eq e ▸ request getCountersRequest s
  | identify => exact next_eq e ▸ quiet (fun u _ => .refl u) s
  | badRequestTaken => exact next_eq e ▸ quiet (fun u _ => .refl u) s
  | rawChange l pin => exact next_eq e ▸ .awake (rawChange pin)
  | settlingTimerExpiry l => exact next_eq e ▸ .awake settlingExpiry
  | lockoutExpiry l => exact next_eq e ▸ .awake lockoutExpiry
  | chatterWindowExpiry l => exact next_eq e ▸ .awake fun _ => windowExpiry
  | releaseTimerExpiry l => exact next_eq e ▸ .awake releaseExpiry
  | deadlineExpiry => exact next_eq e ▸ .awake fun _ => recording (deadline s)
  | cooldownExpiry => exact next_eq e ▸ .awake fun _ => cooldownEnd s
  | acknowledgeTimerExpiry n => exact next_eq e ▸ .awake fun _ => of_storeOnly (.acknowledgeExpiry s n)
  | gapTimeout => exact next_eq e ▸ .awake fun _ => of_storeOnly (.gapExpiry s)
  | eraseCompletion i => exact next_eq e ▸ .awake fun _ => of_storeOnly (.completeErase s i)
  | frameArrival b => exact next_eq e ▸ .awake fun _ => of_storeOnly (.frameArrival s b)
  | lengthFault b => exact next_eq e ▸ .awake fun _ => of_storeOnly (.lengthFault s b)
  | characterError low => exact next_eq e ▸ .awake fun _ => of_storeOnly (.characterError s low)
  | linkBreak => exact next_eq e ▸ .awake fun _ => of_storeOnly (.linkBreak s)
  | arbiterChoice => exact next_eq e ▸ .awake fun _ => of_storeOnly (.arbiterChoice s)
  | transmissionCompletion => exact next_eq e ▸ .awake fun _ => of_storeOnly (.completeTransmission s)
  | rstnLow => exact next_eq e ▸ of_eq (b := s.blocks) (b' := (rstnLow s).blocks) rfl
  | pinReset pins spd1 spd0 => exact next_eq e ▸ .reset pins (speedOf spd1 spd0) rfl
  | powerOn pins spd1 spd0 => exact next_eq e ▸ .reset pins (speedOf spd1 spd0) rfl
  | characterReceived b => exact next_eq e ▸ .awake fun _ => of_eq rfl
  | receiveLineReturnsHigh => exact next_eq e ▸ .awake fun _ => of_storeOnly (.lineHigh s)

theorem step (e : step s = .next t) : s.blocks.Moves t.blocks := by
  obtain ⟨c, p, e⟩ | rfl | rfl := step_cases e
  · exact exec (s := { s with pending := p }) e
  · exact of_eq rfl
  · exact .elapse 1 rfl

end Blocks.Moves

/-- Settles O56: each way a step can move the blocks keeps their law. -/
theorem stepKeepsModeLaw : Obligations.StepKeepsModeLaw :=
  fun _ _ h e => modeLaw_iff.2 ((modeLaw_iff.1 h).moves (.step e))

/-- Settles O57: each way a step can move the blocks keeps every line sound and every group after its members. -/
theorem stepKeepsLevelLaws : Obligations.StepKeepsLevelLaws := fun _ _ modal lines groups e =>
  ⟨lineLaw_iff.2 (Blocks.sound_moves lines.sound (modeLaw_iff.1 modal) (.step e)),
    groupLaw_iff.2 ((groupLaw_iff.1 groups).moves (modeLaw_iff.1 modal) (.step e))⟩

end Sys2Proof.Machine
end

section
/-! The blocks of R132 after pin reset and power-on. -/

namespace Sys2Proof.Machine

theorem atReset_line (pins : LineSet) (speed : LinkSpeed) (l : LineNo) :
    (State.atReset pins speed).lines[l] = Line.atReset (pins.getLsbD l.val) := by simp [State.atReset]

theorem atReset_group (pins : LineSet) (speed : LinkSpeed) (g : GroupNo) :
    (State.atReset pins speed).groups[g] = Group.atReset := by simp [State.atReset]

theorem atReset_cursor (pins : LineSet) (speed : LinkSpeed) (k : CursorNo) :
    (State.atReset pins speed).cursors[k] = { state := .closed, inFlight := none } := by simp [State.atReset]

theorem atReset_class (pins : LineSet) (speed : LinkSpeed) (n : ClassNo) :
    (State.atReset pins speed).notes.classes[n] = NoteClass.atReset := by simp [State.atReset]

theorem atReset_counter (pins : LineSet) (speed : LinkSpeed) (k : CounterNo) :
    (State.atReset pins speed).link.counters[k] = 0 := by simp [State.atReset, Link.atReset]

/-- No class is enabled at reset, so none asks for attention (R203). -/
theorem atReset_attn (pins : LineSet) (speed : LinkSpeed) : attnAsserted (State.atReset pins speed) = false := by
  have silent : NoteClass.attn NoteClass.atReset = false := rfl
  simp [attnAsserted, State.atReset, silent]

/-- The straps give the link's speed (R158). -/
theorem speedOf_baud (spd1 spd0 : Bool) : (speedOf spd1 spd0).baud =
    if spd1 then (if spd0 then 3000000 else 1000000) else (if spd0 then 460800 else 115200) := by
  cases spd1 <;> cases spd0 <;> rfl

/-- Settles O4: both commands give the state of R132, whatever the state before. -/
theorem pinResetBlocks : Obligations.PinResetBlocks := by
  intro s pins spd1 spd0 c hc
  have reset : exec c s = .next (pinReset pins spd1 spd0 s) := by
    obtain rfl | rfl := hc <;> rfl
  let speed := speedOf spd1 spd0
  exact ⟨_, reset, rfl, rfl, rfl, rfl, rfl, rfl, atReset_line pins speed, atReset_group pins speed, rfl,
    atReset_cursor pins speed, atReset_class pins speed, rfl, atReset_attn pins speed, atReset_counter pins speed, rfl, rfl,
    rfl, rfl, rfl, rfl, rfl, speedOf_baud spd1 spd0⟩

end Sys2Proof.Machine
end

section
/-! The settings stored in SETUP alone (R49, R50, R72, R73, R94): what their payloads give back, and the event. -/

namespace Sys2Proof.Machine

/-! ### Payload bytes -/

theorem byte_toNat {n : Nat} (h : n < 256) : (byte n).toNat = n := by
  rw [byte, BitVec.toNat_ofNat]
  omega

/-- A resource's number names it again. -/
theorem below_byte {n : Nat} (hn : n ≤ 256) (i : Fin n) : below n (byte i.val).toNat = some i :=
  below_eq_some.2 (byte_toNat (Nat.lt_of_lt_of_le i.isLt hn))

/-- A number in its range is read back as it was sent. -/
theorem inRange_byte {lo hi n : Nat} (h : n < 256) (hlo : lo ≤ n) (hhi : n ≤ hi) :
    inRange lo hi (byte n).toNat = some n := inRange_eq_some.2 ⟨byte_toNat h, by rwa [byte_toNat h], by rwa [byte_toNat h]⟩

theorem qualifyOf_byte (q : QualifyMode) : qualifyOf (if q = .stable then (0 : Byte) else 1).toNat = some q := by
  cases q <;> rfl

theorem actionOf_toCode (a : Action) : actionOf a.toCode.toNat = some a := by cases a <;> rfl

/-- The five flags of SET_LINE are the bits of their byte (R214). -/
theorem lineFlags (enabled invert logEdges lookback capture : Bool) :
    let n := enabled.toNat + 2 * invert.toNat + 4 * logEdges.toNat + 8 * lookback.toNat + 16 * capture.toNat
    n ≤ 31 ∧ n.testBit 0 = enabled ∧ n.testBit 1 = invert ∧ n.testBit 2 = logEdges ∧ n.testBit 3 = lookback ∧
      n.testBit 4 = capture := by
  revert enabled invert logEdges lookback capture
  decide

/-- The two flags of SET_GROUP are the bits of their byte (R214). -/
theorem groupFlags (enabled pinOnBurst : Bool) :
    let n := enabled.toNat + 2 * pinOnBurst.toNat
    n ≤ 3 ∧ n.testBit 0 = enabled ∧ n.testBit 1 = pinOnBurst := by
  revert enabled pinOnBurst
  decide

/-- The last field of a payload. -/
theorem field_last (pre : List Byte) (k n : Nat) (h : n < 256 ^ k) : field (pre ++ leBytes k n) pre.length k = n := by
  have := field_append pre [] k n h
  rwa [List.append_nil] at this

/-! ### The four layouts -/

/-- A SET_LINE payload gives back its line and configuration (R49, R214). -/
theorem decodeSetLine_payload (l : LineNo) {cfg : LineConfig} (hq : cfg.q ≤ 65535) (hk : cfg.k ≤ 255) :
    decodeSetLine (Payload.setLine l cfg) = some (l, cfg) := by
  obtain ⟨range, enabled, invert, logEdges, lookback, capture⟩ :=
    lineFlags cfg.enabled cfg.invert cfg.logEdges cfg.lookback cfg.capture
  have line : below 32 (byteAt (Payload.setLine l cfg) 1) = some l := below_byte (by decide) l
  have flags : inRange 0 31 (byteAt (Payload.setLine l cfg) 2) = some _ :=
    inRange_byte (by omega) (Nat.zero_le _) range
  have qualify : qualifyOf (byteAt (Payload.setLine l cfg) 3) = some cfg.qualify := qualifyOf_byte cfg.qualify
  have route : below 4 (byteAt (Payload.setLine l cfg) 7) = some cfg.route := below_byte (by decide) cfg.route
  have q : field (Payload.setLine l cfg) 4 2 = cfg.q := field_append [_, _, _, _] [_, _] 2 cfg.q (by omega)
  have k : byteAt (Payload.setLine l cfg) 6 = cfg.k := byte_toNat (by omega)
  unfold decodeSetLine
  rw [line, flags, qualify, route, q, k]
  simp only [bind, Option.bind_some, enabled, invert, logEdges, lookback, capture]

/-- A SET_GROUP payload gives back its group and configuration, less the levels of non-members (R72, R73, R214). -/
theorem decodeSetGroup_payload (g : GroupNo) {cfg : GroupConfig} (hp : cfg.priority ≤ 3) (hw : 1 ≤ cfg.w)
    (hw' : cfg.w ≤ 60000) : decodeSetGroup (Payload.setGroup g cfg) =
      some (g, { cfg with reference := cfg.reference &&& cfg.members }) := by
  obtain ⟨range, enabled, pinOnBurst⟩ := groupFlags cfg.enabled cfg.pinOnBurst
  have group : below 8 (byteAt (Payload.setGroup g cfg) 1) = some g := below_byte (by decide) g
  have flags : inRange 0 3 (byteAt (Payload.setGroup g cfg) 2) = some _ := inRange_byte (by omega) (Nat.zero_le _) range
  have members : field (Payload.setGroup g cfg) 3 4 = cfg.members.toNat :=
    field_append [_, _, _] _ 4 _ cfg.members.isLt
  have reference : field (Payload.setGroup g cfg) 7 4 = cfg.reference.toNat :=
    field_append (_ :: _ :: _ :: leBytes 4 cfg.members.toNat) _ 4 _ cfg.reference.isLt
  have priority : inRange 0 3 (byteAt (Payload.setGroup g cfg) 11) = some cfg.priority :=
    inRange_byte (by omega) (Nat.zero_le _) hp
  have route : below 4 (byteAt (Payload.setGroup g cfg) 12) = some cfg.route := below_byte (by decide) cfg.route
  have action : actionOf (byteAt (Payload.setGroup g cfg) 13) = some cfg.action := actionOf_toCode cfg.action
  have sent : field (Payload.setGroup g cfg) 14 2 = cfg.w := field_last (_ ++ [_, _, _]) 2 cfg.w (by omega)
  have w : inRange 1 60000 (field (Payload.setGroup g cfg) 14 2) = some cfg.w :=
    inRange_eq_some.2 ⟨sent, by rwa [sent], by rwa [sent]⟩
  unfold decodeSetGroup
  rw [group, flags, members, reference, priority, route, action, w]
  simp only [bind, Option.bind_some, enabled, pinOnBurst, BitVec.ofNat_toNat, BitVec.setWidth_eq]

/-- A SET_CHATTER payload gives back its two times, where both are in range (R50, R214). -/
theorem decodeSetChatter_payload {wc rc : Nat} (hw : wc ≤ 65535) (hr : rc ≤ 65535) {f : Nat × Nat} :
    decodeSetChatter (Payload.setChatter wc rc) = some f ↔ (1 ≤ wc ∧ 10 ≤ rc) ∧ f = (wc, rc) := by
  have window : field (Payload.setChatter wc rc) 1 2 = wc := field_append [_] _ 2 wc (by omega)
  have release : field (Payload.setChatter wc rc) 3 2 = rc := field_last (_ :: leBytes 2 wc) 2 rc (by omega)
  unfold decodeSetChatter
  rw [window, release]
  simp only [Option.bind_eq_bind, Option.bind_eq_some_iff, inRange_eq_some, Option.some.injEq]
  constructor
  · rintro ⟨_, ⟨rfl, hw1, -⟩, _, ⟨rfl, hr1, -⟩, rfl⟩
    exact ⟨⟨hw1, hr1⟩, rfl⟩
  · rintro ⟨⟨hw1, hr1⟩, rfl⟩
    exact ⟨_, ⟨rfl, hw1, hw⟩, _, ⟨rfl, hr1, hr⟩, rfl⟩

/-- The burst settings that R94 admits. -/
def BurstSettings.InRange (b : BurstSettings) : Prop :=
  b.e ≤ 60000 ∧ (1 ≤ b.m ∧ b.m ≤ 600000) ∧ b.h ≤ 60000 ∧ b.tl ≤ 1000 ∧ b.p ≤ 4

/-- A SET_BURST payload gives back its settings, where they are in range (R94, R214). -/
theorem decodeSetBurst_payload {b f : BurstSettings} (he : b.e ≤ 65535) (hm : b.m ≤ 4294967295) (hh : b.h ≤ 65535)
    (htl : b.tl ≤ 65535) (hp : b.p ≤ 255) :
    decodeSetBurst (Payload.setBurst b) = some f ↔ b.InRange ∧ f = b := by
  have e : field (Payload.setBurst b) 1 2 = b.e := field_append [_] _ 2 b.e (by omega)
  have m : field (Payload.setBurst b) 3 4 = b.m := field_append (_ :: leBytes 2 b.e) _ 4 b.m (by omega)
  have h : field (Payload.setBurst b) 7 2 = b.h := field_append (_ :: (leBytes 2 b.e ++ leBytes 4 b.m)) _ 2 b.h (by omega)
  have tl : field (Payload.setBurst b) 9 2 = b.tl :=
    field_append (_ :: (leBytes 2 b.e ++ leBytes 4 b.m ++ leBytes 2 b.h)) [byte b.p] 2 b.tl (by omega)
  have p : byteAt (Payload.setBurst b) 11 = b.p := byte_toNat (by omega)
  unfold decodeSetBurst
  rw [e, m, h, tl, p]
  simp only [Option.bind_eq_bind, Option.bind_eq_some_iff, inRange_eq_some, Option.some.injEq]
  constructor
  · rintro ⟨_, ⟨rfl, -, he⟩, _, ⟨rfl, hm⟩, _, ⟨rfl, -, hh⟩, _, ⟨rfl, -, htl⟩, _, ⟨rfl, -, hp⟩, rfl⟩
    exact ⟨⟨he, hm, hh, htl, hp⟩, rfl⟩
  · rintro ⟨⟨he, hm, hh, htl, hp⟩, rfl⟩
    exact ⟨_, ⟨rfl, Nat.zero_le _, he⟩, _, ⟨rfl, hm⟩, _, ⟨rfl, Nat.zero_le _, hh⟩, _, ⟨rfl, Nat.zero_le _, htl⟩, _,
      ⟨rfl, Nat.zero_le _, hp⟩, rfl⟩

/-! ### The event -/

section Event

variable {s : State} {row : Instr} {tag code : Byte} {fields : List Byte} {rest : List Request} {α : Type}
  {decode : List Byte → Option α} {store : α → State → State}

/-- A request that stores settings in SETUP alone, its fields in range (R182). -/
theorem settings_event {a : α} (hs : s.inReset = false) (hi : s.link.intake = ⟨tag, code :: fields⟩ :: rest)
    (hrow : Request.row ⟨tag, code :: fields⟩ = row) (hd : decode (code :: fields) = some a)
    (hl : (store a (s.taking rest)).link = (s.taking rest).link) :
    awake (serve row fun p => withFields (decode p) fun a => inSetup fun u => (store a u, ⟨.ok, .empty⟩)) s =
      if s.mode = .setup then
        { store a (s.taking rest) with link := s.link.answered tag rest [.reply tag (some code) ⟨.ok, .empty⟩ true] }
      else s.answered tag rest code .wrongMode (.mode s.mode) := by
  split
  · next setup =>
    refine awake_serve_answered hs hi hrow ?_ hl nofun
    rw [hd, withFields_some]
    exact inSetup_setup setup
  · next other =>
    refine awake_serve_unchanged hs hi hrow ?_ nofun
    rw [hd, withFields_some]
    exact inSetup_other other

/-- One with a field out of range (R182). -/
theorem settings_refused {k : α → State → State × Reply} (hs : s.inReset = false)
    (hi : s.link.intake = ⟨tag, code :: fields⟩ :: rest) (hrow : Request.row ⟨tag, code :: fields⟩ = row)
    (hd : decode (code :: fields) = none) :
    awake (serve row fun p => withFields (decode p) k) s = s.answered tag rest code .badArgument .empty :=
  awake_serve_unchanged hs hi hrow (by rw [hd, withFields_none]) nofun

end Event

theorem Line.configure_eq (ln : Line) (cfg : LineConfig) : ln.configure cfg =
    { ln with cfg, qualified := if ln.state = .idle then ln.pin ^^ cfg.invert else ln.qualified } := by
  unfold configure
  dsimp only
  split <;> rfl

/-- Settles O15: each payload gives back its settings, and the request stores them. -/
theorem setupSettingsStored : Obligations.SetupSettingsStored := by
  intro s tag rest hs
  refine ⟨fun l cfg hq hk hi => ?_, fun wc rc hw hw' hr hr' hi => ?_, fun wc rc hw hr out hi => ?_,
    fun b he hm hm' hh htl hp hi => ?_, fun b he hm hh htl hp out hi => ?_, fun g cfg hp hw hw' hi => ?_⟩
  · rw [← Line.configure_eq]
    exact congrArg Host.Outcome.next
      (settings_event (store := fun (f : LineNo × LineConfig) u => u.setLine f.1 (u.lines[f.1].configure f.2)) hs hi rfl
        (decodeSetLine_payload l hq hk) rfl)
  · exact congrArg Host.Outcome.next
      (settings_event (store := fun (f : Nat × Nat) u => { u with wc := f.1, rc := f.2 }) hs hi rfl
        ((decodeSetChatter_payload hw' hr').2 ⟨⟨hw, hr⟩, rfl⟩) rfl)
  · have refused : decodeSetChatter (Payload.setChatter wc rc) = none := Option.eq_none_iff_forall_ne_some.2 fun f h => by
      obtain ⟨⟨hw1, hr1⟩, -⟩ := (decodeSetChatter_payload hw hr).1 h
      omega
    exact congrArg Host.Outcome.next (settings_refused hs hi rfl refused)
  · exact congrArg Host.Outcome.next
      (settings_event (store := fun (f : BurstSettings) u => { u with burst := { u.burst with settings := f } }) hs hi rfl
        ((decodeSetBurst_payload (by omega) (by omega) (by omega) (by omega) (by omega)).2
          ⟨⟨he, ⟨hm, hm'⟩, hh, htl, hp⟩, rfl⟩) rfl)
  · have refused : decodeSetBurst (Payload.setBurst b) = none := Option.eq_none_iff_forall_ne_some.2 fun f h => by
      obtain ⟨⟨he, hm, hh, htl, hp⟩, -⟩ := (decodeSetBurst_payload he hm hh htl hp).1 h
      omega
    exact congrArg Host.Outcome.next (settings_refused hs hi rfl refused)
  · exact congrArg Host.Outcome.next
      (settings_event (store := fun (f : GroupNo × GroupConfig) u => u.setGroup f.1 { u.groups[f.1] with cfg := f.2 }) hs hi rfl
        (decodeSetGroup_payload g hp hw hw') rfl)

end Sys2Proof.Machine
end

section
/-! SET_TIME (R69): the time base and, while ARMED, the TIME_STEP records. -/

namespace Sys2Proof.Machine

/-- A SET_TIME payload gives back its time (R69, R214). -/
theorem field_setTime {v : Nat} (hv : v ≤ max48) : field (Payload.setTime v) 1 6 = v :=
  field_last [_] 6 v (Nat.lt_of_le_of_lt hv (by decide))

theorem setTimeRequest_payload {v : Nat} (hv : v ≤ max48) (s : State) :
    setTimeRequest (Payload.setTime v) s = (recording (stepTime v) s, ⟨.ok, .times s.time v⟩) := by
  rw [setTimeRequest, field_setTime hv]

/-- The time base alone is set where the recorder is not ARMED (R69). -/
theorem recording_stepTime_unarmed {s : State} (v : Nat) (hm : s.mode ≠ .armed) :
    recording (stepTime v) s = s.setTime v := by
  have stepped : stepTime v s = s.setTime v := if_neg hm
  rw [recording, stepped]
  exact closeEvent_quiet rfl fun _ => rfl

theorem setTime_effects (raised : List ClassNo) (v : Nat) (s : State) : MidEffects raised s (s.setTime v) where
  inReset := rfl
  chatter := ⟨rfl, rfl⟩
  pending := rfl
  cursors _ := .inl rfl
  link := rfl
  credit := rfl
  classes _ _ := rfl
  occurrences _ := ⟨rfl, fun _ => rfl⟩

/-- While ARMED the TIME_STEP of both times goes to every spool (R69). -/
theorem recording_stepTime_armed {s : State} (v : Nat) (hm : s.mode = .armed) :
    StoreOnly (s.setTime v) (recording (stepTime v) s) ∧
      (∀ i : SpoolNo, (recording (stepTime v) s).spools[i] = Spool.atEventEnd s.spools[i]
        (s.spools[i].appended v { body := .timeStep s.time v, timestamp := v })) ∧
      SideEffects [lossClass, nearFullClass] s (recording (stepTime v) s) := by
  let d : Draft := { body := .timeStep s.time v, timestamp := v }
  have stepped : stepTime v s = appendToAll d (s.setTime v) := if_pos hm
  have spools : ∀ i : SpoolNo, (appendToAll d (s.setTime v)).spools[i] = s.spools[i].appended v d :=
    appendToAll_spool d (s.setTime v)
  have effects := closeEvent_effects ((setTime_effects _ v s).trans (appendToAll_effects d (s.setTime v))) fun i => by
    obtain ⟨-, -, -, -, erasing, -⟩ := Spool.append_keeps s.spools[i] v d
    rw [spools]
    exact erasing
  rw [recording, stepped]
  refine ⟨(appendToAll_storeOnly d _).trans (closeEvent_storeOnly s _), fun i => ?_, effects.mono (by simp)⟩
  rw [closeEvent_spool, spools]

/-- Settles O19: the event is that of the time step, and its reply gives both times. -/
theorem setTimeCarriedOut : Obligations.SetTimeCarriedOut := by
  intro s tag rest v hs hv hi
  have carried := setTimeRequest_payload hv (s.taking rest)
  refine ⟨fun hm => ?_, fun hm => ?_⟩
  · rw [recording_stepTime_unarmed (s := s.taking rest) v hm] at carried
    exact congrArg Host.Outcome.next
      (awake_serve_answered (t := (s.taking rest).setTime v) (f := setTimeRequest) hs hi rfl carried rfl nofun)
  · obtain ⟨only, spools, effects⟩ := recording_stepTime_armed (s := s.taking rest) v hm
    have taken := awake_serve (f := setTimeRequest) hs hi rfl
    rw [show setTimeRequest (0x20 :: leBytes 6 v) (s.taking rest) = _ from carried] at taken
    generalize recording (stepTime v) (s.taking rest) = t at only spools effects taken
    exact ⟨_, congrArg Host.Outcome.next taken, only.time, only.mode, only.lines, only.groups, only.burst, spools,
      requestEffects_of_sideEffects effects nofun⟩

end Sys2Proof.Machine
end

section
/-! SET_REFERENCE (R88, R89): the levels stored, and while ARMED the evaluation of the rewritten group. -/

namespace Sys2Proof.Machine

/-- A SET_REFERENCE payload gives back its group and levels (R88, R214). -/
theorem decodeSetReference_payload (g : GroupNo) (levels : LineSet) :
    decodeSetReference (Payload.setReference g levels) = some (g, levels) := by
  have group : below 8 (byteAt (Payload.setReference g levels) 1) = some g := below_byte (by decide) g
  have sent : field (Payload.setReference g levels) 2 4 = levels.toNat := field_last [_, _] 4 _ levels.isLt
  unfold decodeSetReference
  rw [group, sent]
  simp only [bind, Option.bind_some, BitVec.ofNat_toNat, BitVec.setWidth_eq]

/-- The group whose levels are stored, with them (R88). -/
theorem storeReference_group (g : GroupNo) (levels : LineSet) (s : State) : (storeReference g levels s).groups[g] =
    { s.groups[g] with cfg := { s.groups[g].cfg with reference := levels &&& s.groups[g].cfg.members } } :=
  (Vector_set_get s.groups g g _).trans (if_pos rfl)

/-- SET_REFERENCE stores the levels, and evaluates an enabled group of an ARMED recorder (R88, R89). -/
theorem setReferenceRequest_payload (g : GroupNo) (levels : LineSet) (s : State) :
    setReferenceRequest (Payload.setReference g levels) s =
      if s.mode = .armed ∧ s.groups[g].cfg.enabled = true then
        recordingWith (referenceEvaluation g) (storeReference g levels s)
      else (storeReference g levels s, ⟨.ok, .empty⟩) := by
  rw [setReferenceRequest, decodeSetReference_payload, withFields_some]
  dsimp only
  rw [storeReference_group]

/-- A standing state by the members' levels, each as a case (R75, R89). -/
theorem standingState_cases {lines : Vector Line 32} {cfg : GroupConfig} :
    ((∀ l : LineNo, cfg.members.getLsbD l.val = true → lines[l].qualified = cfg.reference.getLsbD l.val) →
      standingState lines cfg = .conforming) ∧
    ((∃ l : LineNo, cfg.members.getLsbD l.val = true ∧ lines[l].qualified ≠ cfg.reference.getLsbD l.val) →
      standingState lines cfg = .blocked) := by
  refine ⟨fun h => if_pos ((conforms_iff lines cfg).2 h), ?_⟩
  rintro ⟨l, member, differs⟩
  exact if_neg fun h => differs ((conforms_iff lines cfg).1 h l member)

/-- A member's level is stored as it was given (R88). -/
theorem storedReference_member {levels members : LineSet} {l : LineNo} (h : members.getLsbD l.val = true) :
    (levels &&& members).getLsbD l.val = levels.getLsbD l.val := by
  rw [BitVec.getLsbD_and, h, Bool.and_true]

/-- The evaluation of a rewrite as one event: the group's state, its REFERENCE record, and the event's end (R89). -/
theorem recordingWith_referenceEvaluation {g : GroupNo} {s : State} {gr : Group} {st : GroupState}
    (hg : s.groups[g] = gr) (hst : standingState s.lines gr.cfg = st) :
    ∃ t, recordingWith (referenceEvaluation g) s = (t, ⟨.ok, .groupState st⟩) ∧
      StoreOnly (s.setGroup g { gr with state := st }) t ∧
      (∀ i : SpoolNo, t.spools[i] = if gr.cfg.route = i then
          Spool.atEventEnd s.spools[i]
            (s.spools[i].appended s.time { body := .reference g gr.cfg.reference st, timestamp := s.time })
        else s.spools[i]) ∧
      SideEffects [lossClass, nearFullClass] s t := by
  subst hg hst
  have asked := (blocks_effects [lossClass] s _ _ _).trans (appendTo_effects s.groups[g].cfg.route
    { body := .reference g s.groups[g].cfg.reference (standingState s.lines s.groups[g].cfg), timestamp := s.time }
    (s.setGroup g { s.groups[g] with state := standingState s.lines s.groups[g].cfg }))
  obtain ⟨spools, effects⟩ := closeEvent_asked (s := s) (fun j => appendTo_spool _ j _ (s.setGroup g _)) asked
  exact ⟨_, rfl, (appendTo_storeOnly _ _ _).trans (closeEvent_storeOnly s _), spools, effects.mono (by simp)⟩

/-- The groups lie outside what `SideEffects` speaks of. -/
theorem SideEffects.of_setGroup {raised : List ClassNo} {g : GroupNo} {gr : Group} {s t : State}
    (h : SideEffects raised (s.setGroup g gr) t) : SideEffects raised s t := { h with }

theorem Payload.setReference_eq (g : GroupNo) (levels : LineSet) :
    Payload.setReference g levels = 0x13 :: byte g.val :: leBytes 4 levels.toNat := rfl

/-- Settles O16: the levels are stored, and the evaluation is an event that asks the group's route for one record. -/
theorem setReferenceCarriedOut : Obligations.SetReferenceCarriedOut := by
  intro s tag rest g levels hs hi
  have request := setReferenceRequest_payload g levels (s.taking rest)
  rw [Payload.setReference_eq] at hi request
  refine ⟨fun plain => ?_, fun evaluated => ?_⟩
  · exact congrArg Host.Outcome.next (awake_serve_answered (t := storeReference g levels (s.taking rest)) hs hi rfl
      (request.trans (if_neg plain)) rfl nofun)
  · obtain ⟨t, event, only, spools, effects⟩ := recordingWith_referenceEvaluation
      (storeReference_group g levels (s.taking rest)) rfl
    obtain ⟨conforming, blocked⟩ := standingState_cases (lines := s.lines)
      (cfg := { s.groups[g].cfg with reference := levels &&& s.groups[g].cfg.members })
    have taken := awake_serve (f := setReferenceRequest) hs hi rfl
    rw [request.trans (if_pos evaluated), event] at taken
    refine ⟨_, _, congrArg Host.Outcome.next taken, fun h => conforming fun l member => ?_, ?_, only.mode, only.time,
      only.lines, only.burst, only.groups.trans (Vector.set_set ..), spools,
      requestEffects_of_sideEffects effects.of_setGroup nofun⟩
    · exact (h l member).trans (storedReference_member member).symm
    · rintro ⟨l, member, differs⟩
      exact blocked ⟨l, member, by rwa [storedReference_member member]⟩

end Sys2Proof.Machine
end

section
/-! Trips of BURST groups that open no burst (R99, R100, R103, R104, R106), among the evaluations of a change. -/

namespace Sys2Proof.Machine

/-! ### The disposition of one trip -/

theorem openingNeed_eq (sp : Spool) : openingNeed sp =
    (if sp.current = none then 0 else 1) + 2 + (if sp.tally = none then 0 else 1) + 1 := by
  rw [openingNeed, Spool.toNat_isSome, Spool.toNat_isSome]

/-- On a route that is ERASING or lacks the room of an opening the trip is REFUSED (R100, R103). -/
theorem tryOpen_refused {t : Trip} {s : State} (h : s.spools[t.cfg.route].erasing ≠ none ∨
    s.spools[t.cfg.route].room (openingNeed s.spools[t.cfg.route]) true = false) :
    tryOpen t s = append t.cfg.route (t.record .refused none) s := by
  unfold tryOpen
  refine if_neg fun opens => ?_
  obtain ⟨idle, room⟩ := Bool.and_eq_true_iff.1 opens
  obtain erasing | lacks := h
  · exact erasing (Option.isNone_iff_eq_none.1 idle)
  · exact absurd (room.symm.trans lacks) nofun

/-- A deadline that stays within 48 bits is extended to exactly the value of R104. -/
theorem extendedDeadline_eq {b : OpenBurst} {set : BurstSettings} {time : Nat} (h : time + 1000 * set.e ≤ max48) :
    extendedDeadline b set time = if b.deadline < time + 1000 * set.e then
      max b.deadline (min (time + 1000 * set.e) (b.t0 + 1000 * set.m)) else b.deadline := by
  unfold extendedDeadline deadlineOf
  dsimp only
  rw [if_pos ((min_le_left _ _).trans h)]

/-- A trip that opens no burst is an ordinary append of its record, in the phase it leaves (R99, R103, R104, R106). -/
theorem burstTrip_taken {t : Trip} {s : State} {d : Disposition × Option Nat} {p : BurstPhase}
    (h : TripTaken s.burst.settings t.cfg s.spools[t.cfg.route] t.time s.burst.phase d p) :
    burstTrip t s = append t.cfg.route (t.record d.1 d.2) (s.setPhase p) := by
  generalize hphase : s.burst.phase = phase at h
  cases h with
  | extended b deadline h48 hd =>
    unfold burstTrip extendBurst
    rw [hphase]
    dsimp only
    rw [extendedDeadline_eq h48, ← hd]
  | suppressed id i g timer hp =>
    have same : s.setPhase (.cooldown id i g timer) = s := by rw [← hphase]; rfl
    unfold burstTrip
    rw [hphase, same]
    exact if_neg (Nat.not_le.2 hp)
  | refused _ hp hr =>
    subst hphase
    rw [← openingNeed_eq] at hr
    rw [burstTrip_tries hp, tryOpen_refused (s := s.setPhase .idle) hr]

/-! ### The evaluations, each in the phase the one before it left -/

/-- A phase of the burst controller lies outside what `MidEffects` speaks of. -/
theorem setPhase_effects (raised : List ClassNo) (p : BurstPhase) (s : State) : MidEffects raised s (s.setPhase p) :=
  blocks_effects _ s _ _ _

namespace Evaluation

variable {s w u : State} {e : Evaluation} {c : Change} {level : Bool} {g : GroupNo} {p q : BurstPhase}

/-- A trip of a BURST group that opens no burst leaves what a logged one does, and the phase `p` (R77 to R80, R99). -/
theorem logged_of_tripTaken (reads : e.Reads u g) (trips : e.trips u c g = true)
    (action : u.groups[g].cfg.action = .burst)
    (taken : TripTaken u.burst.settings u.groups[g].cfg u.spools[u.groups[g].cfg.route] c.time u.burst.phase
      (e.disposition g) p) : e.Logged c g (u.setPhase p) (evaluateGroup c g u) := by
  let d : Draft :=
    changeDraft c (.trip g c.line (e.levels g) (tripCount u g) (e.disposition g).1 (e.disposition g).2)
  have draft : (tripOf g c u).record (e.disposition g).1 (e.disposition g).2 = d := by
    unfold d
    rw [reads.levels]
    rfl
  have appended : burstTrip (tripOf g c u) (countTrip g c u) =
      append u.groups[g].cfg.route d ((countTrip g c u).setPhase p) := by
    rw [← draft]
    exact burstTrip_taken taken
  have record : e.record (u.setPhase p) c g = _ := (record_congr rfl).trans (record_of_trips trips)
  have effects : MidEffects [lossClass] (u.setPhase p)
      (append u.groups[g].cfg.route d ((countTrip g c u).setPhase p)).1 :=
    (blocks_effects _ (u.setPhase p) _ _ _).trans (append_effects _ d _)
  rw [(evaluateGroup_tripped reads trips).1, tripGroup_burst action, appended]
  exact {
    burst := (append_storeOnly _ d ((countTrip g c u).setPhase p)).burst
    spools := fun i => by
      rw [raise_spools, append_spool, record]
      exact ite_congr rfl (fun e => by subst e; rfl) fun _ => rfl
    trip := by
      rw [raise_class, if_pos rfl, effects.classes _ (by decide), record]
      exact (if_pos trips).symm
    effects := (effects.mono (by simp)).trans ((raise_effects _ _ _).mono (by simp)) }

/-- One evaluation more, in the phase it leaves (R76, R79). -/
theorem LoggedAt.next (time : w.time = s.time) (at_g : e.LoggedAt s c level (w.setPhase p) g.val u)
    (own : u.groups[g] = s.groups[g]) (reads : e.Reads u g) (one : e.Logged c g (u.setPhase q) (evaluateGroup c g u)) :
    e.LoggedAt s c level (w.setPhase q) (g.val + 1) (evaluateGroup c g u) := by
  obtain ⟨now, groups⟩ := evaluateGroup_evaluating (c := c) reads
  have burst : (evaluateGroup c g u).burst = (w.setPhase q).burst := by
    rw [one.burst, State.setPhase_burst, at_g.burst]
    rfl
  have now_time : u.time = s.time := at_g.evaluating.time.trans time
  have phased : (u.setPhase q).groups[g] = s.groups[g] := own
  exact {
    evaluating := ⟨now.mode.trans at_g.evaluating.mode, now.time.trans at_g.evaluating.time,
      now.lines.trans at_g.evaluating.lines, fun sound => burst ▸ sound⟩
    groups := at_g.groups.next (Evaluation.group_congr own) groups
    burst
    spools := fun i => by
      rw [one.spools, record_congr phased, phased, spool_next, State.setPhase_time, now_time, State.setPhase_spools,
        at_g.spools]
      rfl
    trips := by
      simp only [one.trip, trips_congr phased, record_congr phased, phased, State.setPhase_time, now_time,
        State.setPhase_spools, at_g.spools, State.setPhase_notes, at_g.trips, tripNotesAt_succ]
      rfl
    effects := ((setPhase_effects _ p (w.setPhase q)).trans at_g.effects).trans
      ((setPhase_effects _ q u).trans one.effects) }

end Evaluation

/-- The phases that a change's trips of BURST groups leave, none of them opening a burst (R79, R99). -/
structure Evaluation.Unopened (e : Evaluation) (s : State) (c : Change) (level : Bool) (phase : Nat → BurstPhase)
    (g : GroupNo) : Prop where
  burst : e.trips s c g = true → s.groups[g].cfg.action = .burst →
    TripTaken s.burst.settings s.groups[g].cfg (e.spoolAt s c level g s.groups[g].cfg.route) c.time (phase g.val)
      (e.disposition g) (phase (g.val + 1))
  log : e.trips s c g = true → s.groups[g].cfg.action = .log → e.disposition g = (.none, none)
  stays : ¬ (e.trips s c g = true ∧ s.groups[g].cfg.action = .burst) → phase (g.val + 1) = phase g.val

/-- One evaluation in a change that opens no burst (R76 to R83, R99). -/
theorem Evaluation.Unopened.logged {e : Evaluation} {s u : State} {c : Change} {level : Bool}
    {phase : Nat → BurstPhase} {g : GroupNo} (h : e.Unopened s c level phase g) (own : u.groups[g] = s.groups[g])
    (reads : e.Reads u g) (settings : u.burst.settings = s.burst.settings) (before : u.burst.phase = phase g.val)
    (spools : ∀ i, u.spools[i] = e.spoolAt s c level g i) :
    e.Logged c g (u.setPhase (phase (g.val + 1))) (evaluateGroup c g u) := by
  by_cases burst : e.trips s c g = true ∧ s.groups[g].cfg.action = .burst
  · obtain ⟨trips, action⟩ := burst
    refine logged_of_tripTaken reads ((trips_congr own).trans trips) (own ▸ action) ?_
    simp only [own, settings, before, spools]
    exact h.burst trips action
  · have same : u.setPhase (phase (g.val + 1)) = u := by
      rw [h.stays burst, ← before]
      rfl
    rw [same]
    refine Evaluation.logged reads fun trips => ?_
    rw [trips_congr own] at trips
    have action : s.groups[g].cfg.action = .log := by
      cases k : s.groups[g].cfg.action
      · rfl
      · exact absurd ⟨trips, k⟩ burst
    exact ⟨own ▸ action, h.log trips action⟩

/-- The evaluations of a recorded change that opens no burst (R76 to R83, R99). -/
theorem Recorded.evaluateGroups_unopened {s w : State} {c : Change} {level : Bool} {ln : Line} {e : Evaluation}
    {phase : Nat → BurstPhase} (h : Recorded s c level ln w) (he : e.ofChange s c level)
    (start : phase 0 = s.burst.phase) (unopened : ∀ g, e.Unopened s c level phase g) :
    e.LoggedAt s c level (w.setPhase (phase 8)) 8 (evaluateGroups c w) := by
  have shows : ShowsChange w.lines s c level := by
    rw [h.lines]
    exact showsChange_set s c level ln
  refine evaluateGroups_induction (P := fun n => e.LoggedAt s c level (w.setPhase (phase n)) n) ?_ fun g u at_g => ?_
  · have same : w.setPhase (phase 0) = w := by
      rw [start, show s.burst.phase = w.burst.phase by rw [h.burst]]
      rfl
    rw [same]
    exact {
      evaluating := .refl w
      groups := fun g => by rw [h.groups]; rfl
      burst := rfl
      spools := fun i => by rw [h.spools]; rfl
      trips := h.effects.classes _ (by decide)
      effects := .refl _ w }
  · have own : u.groups[g] = s.groups[g] := (at_g.groups g).trans (if_neg (Nat.lt_irrefl _))
    have reads : e.Reads u g := by
      obtain ⟨levels, verdict⟩ := Evaluation.ofChange_eq he shows g
      exact ⟨by rw [own, at_g.evaluating.lines]; exact levels, by rw [own, at_g.evaluating.lines]; exact verdict⟩
    refine at_g.next h.time own reads ((unopened g).logged own reads ?_ ?_ at_g.spools)
    · rw [at_g.burst, State.setPhase_burst, h.burst]
    · rw [at_g.burst, State.setPhase_burst]

/-- Settles O43: the change is accepted and recorded, each evaluation finds the phase that the one before it left,
and the event ends. -/
theorem burstTripOtherwise : Obligations.BurstTripOtherwise := by
  intro s cmd c level ln e phase running armed accepts he start each
  obtain ⟨u, executed, accepted⟩ := accepts_event running armed accepts
  obtain ⟨w, evaluated, hw⟩ := accepted.evaluated armed
  have unopened := hw.evaluateGroups_unopened he start fun g => by
    obtain ⟨burst, log, stays⟩ := each g
    exact ⟨burst, log, stays⟩
  rw [evaluated] at executed
  generalize evaluateGroups c w = v at executed unopened
  have ended := closeEvent_storeOnly s v
  have erasing : ∀ i : SpoolNo, v.spools[i].erasing = s.spools[i].erasing := fun i => by
    rw [unopened.spools]
    exact (Spool.appendedAll_keeps _ _ _).2.2.trans (Spool.appendedAll_keeps _ _ _).2.2
  have effects : MidEffects [tripClass, lossClass] s v :=
    (hw.effects.mono (by simp)).trans ((setPhase_effects _ _ w).trans unopened.effects)
  refine ⟨closeEvent s v, executed, ended.mode.trans (unopened.evaluating.mode.trans hw.mode),
    ended.time.trans (unopened.evaluating.time.trans hw.time), ?_,
    ended.lines.trans (unopened.evaluating.lines.trans hw.lines), fun g => ?_, fun i => ?_, ?_,
    (closeEvent_effects effects erasing).mono (by simp)⟩
  · rw [ended.burst, unopened.burst, State.setPhase_burst, hw.burst]
  · rw [ended.groups, unopened.groups g, if_pos g.isLt]
  · rw [closeEvent_spool, unopened.spools]
    rfl
  · rw [closeEvent_class (by decide), unopened.trips]
    rfl

end Sys2Proof.Machine
end

section
/-! The checks of an ARM (R119, R120): each failing check with its subject, and the first one that fails. -/

namespace Sys2Proof.Machine

section Validation

variable {s : State}

/-- Check 1 of R119 passes where some spool has a capacity. -/
theorem anyEnabled_iff : s.spools.toList.any Spool.enabled = true ↔ ∃ i : SpoolNo, s.spools[i].capacity ≠ 0 := by
  simp only [List.any_eq_true, Vector.mem_toList_iff, Vector.mem_iff_getElem, Spool.enabled, bne_iff_ne]
  constructor
  · rintro ⟨_, ⟨i, hi, rfl⟩, enabled⟩
    exact ⟨⟨i, hi⟩, enabled⟩
  · rintro ⟨i, enabled⟩
    exact ⟨_, ⟨i.val, i.isLt, rfl⟩, enabled⟩

/-- The lowest disabled member of a group (R119). -/
theorem disabledMember_eq_some {cfg : GroupConfig} {l : LineNo} :
    ((List.finRange 32).find? fun l => cfg.members.getLsbD l.val && !s.lines[l].cfg.enabled) = some l ↔
      (cfg.members.getLsbD l.val = true ∧ s.lines[l].cfg.enabled = false) ∧
        ∀ k < l, cfg.members.getLsbD k.val = true → s.lines[k].cfg.enabled = true := by
  rw [← Fin.find?_eq_find?_finRange, Fin.find?_eq_some_iff]
  simp

theorem disabledMember_eq_none {cfg : GroupConfig} :
    ((List.finRange 32).find? fun l => cfg.members.getLsbD l.val && !s.lines[l].cfg.enabled) = none ↔
      ∀ l : LineNo, cfg.members.getLsbD l.val = true → s.lines[l].cfg.enabled = true := by
  simp [List.find?_eq_none]

/-- Check 2 of R119 names a group's first fault. -/
theorem groupFault_eq_some {g : GroupNo} {x : ArmFailure} :
    groupFault s g = some x ↔ ∃ f m, GroupFaulty s g f m ∧ .group g f m = x := by
  unfold groupFault
  dsimp only
  constructor
  · split
    · exact nofun
    · next disabled =>
      have enabled := eq_true_of_ne_false disabled
      split
      · next empty => exact fun e => ⟨_, _, .noMembers enabled empty, Option.some.inj e⟩
      · next members =>
        split
        · next l found =>
          obtain ⟨member, lowest⟩ := disabledMember_eq_some.1 found
          exact fun e => ⟨_, _, .disabledMember l enabled member lowest, Option.some.inj e⟩
        · next found =>
          split
          · exact nofun
          · next route => exact fun e => ⟨_, _, .disabledRoute enabled members (disabledMember_eq_none.1 found)
              (Spool.disabled_iff.1 (eq_false_of_ne_true route)), Option.some.inj e⟩
  · rintro ⟨_, _, faulty, rfl⟩
    have some_member {l : LineNo} (h : s.groups[g].cfg.members.getLsbD l.val = true) : s.groups[g].cfg.members ≠ 0 :=
      fun e => by rw [e] at h; exact nomatch BitVec.getLsbD_zero.symm.trans h
    cases faulty with
    | noMembers enabled empty => rw [if_neg (ne_false_of_eq_true enabled), if_pos empty]
    | disabledMember l enabled member lowest =>
      rw [if_neg (ne_false_of_eq_true enabled), if_neg (some_member member.1), disabledMember_eq_some.2 ⟨member, lowest⟩]
    | disabledRoute enabled members all route =>
      rw [if_neg (ne_false_of_eq_true enabled), if_neg members, disabledMember_eq_none.2 all]
      exact if_neg (ne_true_of_eq_false (Spool.disabled_iff.2 route))

theorem groupFault_eq_none {g : GroupNo} : groupFault s g = none ↔ ∀ f m, ¬ GroupFaulty s g f m := by
  simp only [Option.eq_none_iff_forall_ne_some, ne_eq, groupFault_eq_some]
  exact ⟨fun h f m faulty => h _ ⟨f, m, faulty, rfl⟩, fun h _ ⟨f, m, faulty, _⟩ => h f m faulty⟩

/-- Check 3 of R119 names a group's window and M. -/
theorem windowFault_eq_some {g : GroupNo} {x : ArmFailure} :
    windowFault s g = some x ↔ WindowTooLong s g ∧ .window g s.groups[g].cfg.w s.burst.settings.m = x := by
  simp only [windowFault, WindowTooLong, Option.ite_none_right_eq_some, Option.some.injEq]

theorem windowFault_eq_none {g : GroupNo} : windowFault s g = none ↔ ¬ WindowTooLong s g := by
  simp only [windowFault, WindowTooLong, ite_eq_right_iff, reduceCtorEq, imp_false]

/-- Check 4 of R119 in the words of the claims. -/
theorem lineFault_eq (l : LineNo) [Decidable (LineUnrecordable s l)] :
    lineFault s l = if LineUnrecordable s l then some (.line l s.lines[l].cfg.route) else none := by
  unfold lineFault
  refine if_congr ?_ rfl rfl
  simp [LineUnrecordable, Spool.enabled, Nat.pos_iff_ne_zero, and_assoc]

/-- Check 4 of R119 names a line's route. -/
theorem lineFault_eq_some {l : LineNo} {x : ArmFailure} :
    lineFault s l = some x ↔ LineUnrecordable s l ∧ .line l s.lines[l].cfg.route = x := by
  classical simp only [lineFault_eq, Option.ite_none_right_eq_some, Option.some.injEq]

theorem lineFault_eq_none {l : LineNo} : lineFault s l = none ↔ ¬ LineUnrecordable s l := by
  classical simp only [lineFault_eq, ite_eq_right_iff, reduceCtorEq, imp_false]

/-- An ARM is refused for the first check of R119 that fails, with its subject (R120). -/
theorem armFailure_eq_some {x : ArmFailure} : armFailure s = some x ↔ ArmFails s x := by
  simp only [armFailure, ← Fin.findSome?_eq_findSome?_finRange, Option.orElse_eq_orElse, Option.orElse_eq_or,
    Option.or_eq_some_iff, Option.ite_none_left_eq_some, ite_eq_left_iff, Fin.findSome?_eq_some_iff,
    Fin.findSome?_eq_none_iff, anyEnabled_iff, groupFault_eq_some, groupFault_eq_none, windowFault_eq_some,
    windowFault_eq_none, lineFault_eq_some, lineFault_eq_none, Option.some.injEq, reduceCtorEq, imp_false, not_not]
  constructor
  · rintro (⟨spools, rfl⟩ | ⟨spool, ⟨g, ⟨f, m, fault, rfl⟩, lowest⟩ | ⟨groups, ⟨g, ⟨fault, rfl⟩, lowest⟩ |
      ⟨windows, l, ⟨fault, rfl⟩, lowest⟩⟩⟩)
    · exact .noSpool fun i => not_not.1 fun h => spools ⟨i, h⟩
    · exact .group g f m spool fault lowest
    · exact .window g spool groups fault lowest
    · exact .line l spool groups windows fault lowest
  · rintro (spools | ⟨g, f, m, spool, fault, lowest⟩ | ⟨g, spool, groups, fault, lowest⟩ |
      ⟨l, spool, groups, windows, fault, lowest⟩)
    · exact .inl ⟨fun ⟨i, h⟩ => h (spools i), rfl⟩
    · exact .inr ⟨spool, .inl ⟨g, ⟨f, m, fault, rfl⟩, lowest⟩⟩
    · exact .inr ⟨spool, .inr ⟨groups, .inl ⟨g, ⟨fault, rfl⟩, lowest⟩⟩⟩
    · exact .inr ⟨spool, .inr ⟨groups, .inr ⟨windows, l, ⟨fault, rfl⟩, lowest⟩⟩⟩

theorem armRequest_refused {f : ArmFailure} (setup : s.mode = .setup) (failure : armFailure s = some f) (p : List Byte) :
    armRequest p s = (s, ⟨.configInvalid, .configInvalid f⟩) := by
  rw [armRequest, inSetup_setup setup, failure]

theorem armRequest_passed (setup : s.mode = .setup) (passed : armFailure s = none) (p : List Byte) :
    armRequest p s = (recording armRecorder s, ⟨.ok, .armed .armed (blockedGroups (recording armRecorder s))⟩) := by
  rw [armRequest, inSetup_setup setup, passed]

end Validation

/-- Settles O11: a refused mode request changes nothing, and an ARM is refused for the first check that fails. -/
theorem modeRequestRefused : Obligations.ModeRequestRefused := by
  intro s tag rest hs
  refine ⟨fun other hi => ?_, fun other hi => ?_, fun other hi => ?_, fun setup hi => ?_, fun f setup hi fails => ?_⟩
  · exact congrArg Host.Outcome.next (awake_serve_unchanged hs hi rfl (inSetup_other other) nofun)
  · exact congrArg Host.Outcome.next (awake_serve_unchanged hs hi rfl (if_neg other) nofun)
  · exact congrArg Host.Outcome.next (awake_serve_unchanged hs hi rfl (if_neg other) nofun)
  · exact congrArg Host.Outcome.next (awake_serve_unchanged hs hi rfl (if_pos setup) nofun)
  · have refused := armRequest_refused (s := s.taking rest) setup (armFailure_eq_some (s := s).2 fails)
    exact congrArg Host.Outcome.next (awake_serve_unchanged hs hi rfl (refused _) nofun)

end Sys2Proof.Machine
end

section
/-! RSTn held low (R131): what its low level leaves, and that no event is taken until its release. -/

namespace Sys2Proof.Machine

theorem rstnLow_spool (s : State) (i : SpoolNo) : (rstnLow s).spools[i] = { s.spools[i] with erasing := none } :=
  mapV_get _ _ _

/-- In reset every command but those of RSTn and the supply is void (R131). -/
theorem exec_inReset {s : State} {c : Instr} (hs : s.inReset = true) (hc : Instr.isReset c = false) :
    exec c s = .next s := by
  cases c with
  | rstnLow => exact nomatch hc
  | pinReset => exact nomatch hc
  | powerOn => exact nomatch hc
  | _ => exact congrArg Host.Outcome.next (awake_inReset hs)

/-- Settles O5: RSTN_LOW leaves exactly what R131 names, and every other event waits for the release. -/
theorem resetHeldLow : Obligations.ResetHeldLow :=
  ⟨fun s => ⟨rstnLow s, rfl, rfl, rstnLow_spool s, rfl⟩, fun _ _ hs hc => exec_inReset hs hc⟩

end Sys2Proof.Machine
end

section
/-! ARM, HOLD, RESUME and DISARM carried out (R121 to R125): the blocks each sets, then one MODE record to each spool. -/

namespace Sys2Proof.Machine

/-! ### The event of a mode request -/

theorem setMode_effects (raised : List ClassNo) (m : Mode) (s : State) : MidEffects raised s (s.setMode m) where
  inReset := rfl
  chatter := ⟨rfl, rfl⟩
  pending := rfl
  cursors _ := .inl rfl
  link := rfl
  credit := rfl
  classes _ _ := rfl
  occurrences _ := ⟨rfl, fun _ => rfl⟩

/-- The blocks that a mode request sets lie outside what `MidEffects` speaks of. -/
theorem setBlocks_effects (raised : List ClassNo) (s : State) (mode : Mode) (lines : Vector Line 32)
    (groups : Vector Group 8) : MidEffects raised s { s with mode, lines, groups } :=
  (setMode_effects raised mode s).trans (blocks_effects raised (s.setMode mode) lines groups s.burst)

/-- A mode request carried out as one event from `s`: its blocks are set, giving `u`, each spool is asked for the MODE
record, and the event ends at `t` (R24, R125). -/
structure ModeEvent (raised : List ClassNo) (m : Mode) (cause : ModeCause) (s u t : State) : Prop where
  only : StoreOnly u t
  spools : ∀ i : SpoolNo, t.spools[i] = Spool.atEventEnd s.spools[i]
    (u.spools[i].appended s.time { body := .mode m cause, timestamp := s.time })
  classes : ∀ c : ClassNo, c ≠ lossClass → c ≠ nearFullClass → t.notes.classes[c] = u.notes.classes[c]
  effects : SideEffects (raised ++ [lossClass, nearFullClass]) s t

theorem recordMode_event {raised : List ClassNo} {m : Mode} {cause : ModeCause} {s u : State} (time : u.time = s.time)
    (erasing : ∀ i : SpoolNo, u.spools[i].erasing = s.spools[i].erasing) (effects : MidEffects raised s u) :
    ModeEvent raised m cause s u (closeEvent s (recordMode m cause u)) := by
  have recorded : MidEffects [lossClass] u (recordMode m cause u) := appendToAll_effects _ u
  have spools : ∀ i : SpoolNo, (recordMode m cause u).spools[i] =
      u.spools[i].appended s.time { body := .mode m cause, timestamp := s.time } := by
    rw [← time]
    exact appendToAll_spool _ u
  have all : MidEffects (raised ++ [lossClass]) s (recordMode m cause u) :=
    (effects.mono fun _ => List.mem_append_left _).trans (recorded.mono fun _ => List.mem_append_right _)
  refine ⟨(appendToAll_storeOnly _ u).trans (closeEvent_storeOnly s _), fun i => ?_, fun c loss nearFull => ?_,
    (closeEvent_effects all fun i => ?_).mono (by grind)⟩
  · rw [closeEvent_spool, spools]
  · rw [closeEvent_class nearFull]
    exact recorded.classes c (by simpa using loss)
  · obtain ⟨-, -, -, -, kept, -⟩ := Spool.append_keeps u.spools[i] s.time { body := .mode m cause, timestamp := s.time }
    rw [spools]
    exact kept.trans (erasing i)

/-! ### Groups and lines at ARM and RESUME -/

theorem standGroups_group (s : State) (g : GroupNo) : (standGroups s).groups[g] = s.groups[g].stand s.lines :=
  mapV_get _ _ _

theorem Group.stand_disabled {lines : Vector Line 32} {gr : Group} (h : gr.cfg.enabled = false) : gr.stand lines = gr :=
  if_neg (ne_true_of_eq_false h)

/-- An enabled group by its members' levels, each as a case (R85, R86). -/
theorem Group.stand_cases {lines : Vector Line 32} {gr : Group} (h : gr.cfg.enabled = true) :
    ((∀ l : LineNo, gr.cfg.members.getLsbD l.val = true → lines[l].qualified = gr.cfg.reference.getLsbD l.val) →
      gr.stand lines = { gr with state := .conforming }) ∧
    ((∃ l : LineNo, gr.cfg.members.getLsbD l.val = true ∧ lines[l].qualified ≠ gr.cfg.reference.getLsbD l.val) →
      gr.stand lines = { gr with state := .blocked }) := by
  have stands : gr.stand lines = { gr with state := standingState lines gr.cfg } := if_pos h
  obtain ⟨conforming, blocked⟩ := standingState_cases (lines := lines) (cfg := gr.cfg)
  rw [stands]
  exact ⟨fun all => by rw [conforming all], fun differs => by rw [blocked differs]⟩

/-- At ARM an enabled line's qualified level is its raw level (R53). -/
theorem armLines_qualified {s : State} {l : LineNo} (h : s.lines[l].cfg.enabled = true) :
    (mapV Line.arm s.lines)[l].qualified = s.lines[l].raw := by
  rw [mapV_get, Line.arm, if_pos h]

/-- Bit g of the reply to an ARM says whether group g is BLOCKED (R118). -/
theorem blockedGroups_getLsbD (s : State) (g : GroupNo) :
    (blockedGroups s).getLsbD g.val = decide (s.groups[g].state = .blocked) := by
  have key : ∀ gs : List GroupNo,
      (gs.foldr (fun k acc => if s.groups[k].state = .blocked then acc ||| single k else acc) (0 : SmallSet)).getLsbD g.val
        = (decide (g ∈ gs) && decide (s.groups[g].state = .blocked)) := by
    intro gs
    induction gs with
    | nil => simp
    | cons k ks ih =>
      have own : (single k).getLsbD g.val = decide (g = k) := by
        rw [single, BitVec.getLsbD_twoPow]
        simp [Fin.ext_iff, eq_comm]
      rw [List.foldr_cons]
      split
      · next blocked =>
        rw [BitVec.getLsbD_or, ih, own]
        rcases eq_or_ne g k with rfl | h
        · rw [decide_eq_true blocked]
          simp
        · simp [h]
      · next other =>
        rw [ih]
        rcases eq_or_ne g k with rfl | h
        · rw [decide_eq_false other, Bool.and_false, Bool.and_false]
        · simp [h]
  exact (key _).trans (by simp)

/-! ### ARM and RESUME -/

/-- Settles O10: no check fails, so the blocks are set and the MODE record recorded. -/
theorem armCarriedOut : Obligations.ArmCarriedOut := by
  intro s tag rest hs hi setup passes
  have passed : armFailure s = none := Option.eq_none_iff_forall_ne_some.2 fun f h => passes f (armFailure_eq_some.1 h)
  have staffed := armFailure_none passed
  let v := s.taking rest
  have event : ModeEvent [] .armed .arm v (standGroups (armLines (v.setMode .armed))) (recording armRecorder v) :=
    recordMode_event rfl (fun _ => rfl) (setBlocks_effects [] v _ _ _)
  have taken := awake_serve (f := armRequest) hs hi rfl
  rw [armRequest_passed (s := v) setup passed] at taken
  generalize recording armRecorder v = t at event taken
  have groups (g : GroupNo) : t.groups[g] = s.groups[g].stand (mapV Line.arm s.lines) := by
    rw [event.only.groups]
    exact standGroups_group (armLines (v.setMode .armed)) g
  refine ⟨_, blockedGroups t, congrArg Host.Outcome.next taken, event.only.mode, event.only.time, event.only.burst,
    fun l => ?_, fun g disabled => ?_, fun g enabled => ?_, event.spools, blockedGroups_getLsbD t,
    requestEffects_of_sideEffects event.effects nofun⟩
  · show t.lines[l] = _
    rw [event.only.lines]
    exact mapV_get Line.arm s.lines l
  · exact (groups g).trans (Group.stand_disabled disabled)
  · obtain ⟨conforming, blocked⟩ := Group.stand_cases (lines := mapV Line.arm s.lines) enabled
    have level {l : LineNo} (member : s.groups[g].cfg.members.getLsbD l.val = true) :=
      armLines_qualified (staffed g enabled l member)
    refine ⟨fun all => (groups g).trans (conforming fun l member => (level member).trans (all l member)), ?_⟩
    rintro ⟨l, member, differs⟩
    exact (groups g).trans (blocked ⟨l, member, by rwa [level member]⟩)

/-- Settles O13: the groups stand by the levels as they are, and the MODE record is recorded. -/
theorem resumeCarriedOut : Obligations.ResumeCarriedOut := by
  intro s tag rest hs hi held
  let v := s.taking rest
  have event : ModeEvent [] .armed .resume v (standGroups (v.setMode .armed)) (recording resumeRecorder v) :=
    recordMode_event rfl (fun _ => rfl) (setBlocks_effects [] v _ _ _)
  have taken := awake_serve (f := resumeRequest) hs hi rfl
  rw [show resumeRequest [0x03] v = (recording resumeRecorder v, ⟨.ok, .mode .armed⟩) from if_pos held] at taken
  generalize recording resumeRecorder v = t at event taken
  have groups (g : GroupNo) : t.groups[g] = s.groups[g].stand s.lines := by
    rw [event.only.groups]
    exact standGroups_group (v.setMode .armed) g
  refine ⟨_, congrArg Host.Outcome.next taken, event.only.mode, event.only.time, event.only.burst, event.only.lines,
    fun g disabled => (groups g).trans (Group.stand_disabled disabled), fun g enabled => ?_, event.spools,
    requestEffects_of_sideEffects event.effects nofun⟩
  obtain ⟨conforming, blocked⟩ := Group.stand_cases (lines := s.lines) enabled
  exact ⟨fun all => (groups g).trans (conforming all), fun differs => (groups g).trans (blocked differs)⟩

/-! ### HOLD and DISARM -/

/-- A burst closed early: its MARK in the reserved slot, no pin asked for, and BURST_END (R111, R113). -/
theorem closeBurst_early (reason : MarkReason) (b : OpenBurst) (s : State) : closeBurst reason false b s =
    raise burstEndClass (burstEndDetail b s.spools[b.spool]
        (s.spools[b.spool].pins.contains (s.spools[b.spool].current.getD s.spools[b.spool].nextSeg)))
      (s.setSpool b.spool (s.spools[b.spool].fill { body := .mark reason 0 (some b.id), timestamp := s.time })) := rfl

theorem endBurstEarly_spool (reason : MarkReason) (s : State) (i : SpoolNo) :
    (endBurstEarly reason s).spools[i] = s.spools[i].closedEarly i reason s.time s.burst.phase := by
  unfold endBurstEarly Spool.closedEarly
  cases s.burst.phase with
  | isOpen b =>
    refine (setSpool_spool b.spool i _ s).trans (ite_congr rfl (fun e => ?_) fun _ => rfl)
    subst e
    rfl
  | idle => rfl
  | cooldown => rfl

theorem Spool.closedEarly_erasing (sp : Spool) (i : SpoolNo) (reason : MarkReason) (now : Nat) (phase : BurstPhase) :
    (sp.closedEarly i reason now phase).erasing = sp.erasing := by
  unfold Spool.closedEarly
  split
  · split <;> rfl
  · rfl

/-- BURST_END takes the occurrence of an open burst, and nothing where none is open (R111, R113). -/
theorem endBurstEarly_class (reason : MarkReason) (s : State) :
    (endBurstEarly reason s).notes.classes[burstEndClass] =
      (match s.burst.phase with
       | .isOpen b => s.notes.classes[burstEndClass].take (burstEndDetail b s.spools[b.spool]
           (s.spools[b.spool].pins.contains (s.spools[b.spool].current.getD s.spools[b.spool].nextSeg)))
       | _ => s.notes.classes[burstEndClass]) := by
  unfold endBurstEarly
  cases s.burst.phase with
  | isOpen b => exact (raise_class burstEndClass _ _ _).trans (if_pos rfl)
  | idle => rfl
  | cooldown => rfl

theorem endBurstEarly_time (reason : MarkReason) (s : State) : (endBurstEarly reason s).time = s.time := by
  unfold endBurstEarly
  cases s.burst.phase <;> rfl

theorem endBurstEarly_effects (reason : MarkReason) (s : State) :
    MidEffects [burstEndClass] s (endBurstEarly reason s) := by
  have ended (u : State) : MidEffects [burstEndClass] u ((u.setPhase .idle).setRing []) := blocks_effects _ u _ _ _
  unfold endBurstEarly
  dsimp only
  split
  · rw [closeBurst_early]
    exact (((setSpool_effects _ _ s).mono nofun).trans (raise_effects burstEndClass _ _)).trans (ended _)
  · exact ended s

/-- A line put into IDLE keeps its configuration and its pin (R53). -/
theorem disarmed_line {ls ls' : Vector Line 32} (h : ls' = mapV Line.disarm ls) (l : LineNo) : ls'[l] =
    { ls[l] with state := .idle, qualified := ls'[l].qualified, chatterCount := 0, window := none } := by
  subst h
  rw [mapV_get]
  rfl

/-- A group put OFF keeps its configuration and its trip count (R87). -/
theorem disarmed_group {gs gs' : Vector Group 8} (h : gs' = mapV (fun gr : Group => { gr with state := .off }) gs)
    (g : GroupNo) : gs'[g] = { gs[g] with state := .off } := by
  rw [h, mapV_get]

/-- A request that ends the burst controller's work, then sets `mode`, `lines` and `groups`: the burst closed with its MARK
and BURST_END, an empty ring, the MODE record, and the reply (R111, R112, R122, R124). -/
theorem earlyEnd_request {s : State} {tag code : Byte} {rest : List Request} {row : Instr}
    {f : List Byte → State → State × Reply} {mode : Mode} {cause : ModeCause} {reason : MarkReason}
    {lines : Vector Line 32} {groups : Vector Group 8} (hs : s.inReset = false) (hi : s.link.intake = ⟨tag, [code]⟩ :: rest)
    (hrow : Request.row ⟨tag, [code]⟩ = row)
    (hf : f [code] (s.taking rest) = (closeEvent (s.taking rest) (recordMode mode cause
      { endBurstEarly reason (s.taking rest) with mode, lines, groups }), ⟨.ok, .mode mode⟩)) :
    ∃ t, awake (serve row f) s = t ∧ t.mode = mode ∧ t.time = s.time ∧ t.burst = s.burst.ended ∧ t.lines = lines ∧
      t.groups = groups ∧
      (∀ i : SpoolNo, t.spools[i] = Spool.atEventEnd s.spools[i]
        ((s.spools[i].closedEarly i reason s.time s.burst.phase).appended s.time
          { body := .mode mode cause, timestamp := s.time })) ∧
      t.notes.classes[burstEndClass] = (endBurstEarly reason (s.taking rest)).notes.classes[burstEndClass] ∧
      RequestEffects [burstEndClass, lossClass, nearFullClass] s t tag rest code .ok (.mode mode) := by
  let v := s.taking rest
  let u : State := { endBurstEarly reason v with mode, lines, groups }
  have spools (i : SpoolNo) : u.spools[i] = s.spools[i].closedEarly i reason s.time s.burst.phase :=
    endBurstEarly_spool reason v i
  have erasing (i : SpoolNo) : u.spools[i].erasing = v.spools[i].erasing :=
    (congrArg Spool.erasing (spools i)).trans (Spool.closedEarly_erasing ..)
  have time : u.time = v.time := endBurstEarly_time reason v
  have event : ModeEvent [burstEndClass] mode cause v u (closeEvent v (recordMode mode cause u)) :=
    recordMode_event time erasing ((endBurstEarly_effects reason v).trans (setBlocks_effects _ _ _ _ _))
  have taken := awake_serve (f := f) hs hi hrow
  rw [hf] at taken
  generalize closeEvent v (recordMode mode cause u) = t at event taken
  refine ⟨_, taken, event.only.mode, event.only.time.trans time,
    event.only.burst.trans (congrArg Blocks.burst (endBurstEarly_blocks reason v)), event.only.lines, event.only.groups,
    fun i => ?_, event.classes burstEndClass (by decide) (by decide), requestEffects_of_sideEffects event.effects nofun⟩
  rw [← spools]
  exact event.spools i

/-- Settles O12: both end the burst controller's work alike; HOLD leaves lines and groups, DISARM makes them IDLE and OFF. -/
theorem holdAndDisarmCarriedOut : Obligations.HoldAndDisarmCarriedOut := by
  rintro s tag rest c code mode cause reason hs hi (⟨e, armed⟩ | ⟨e, active⟩) <;> cases e
  · have carried : holdRequest [0x02] (s.taking rest) = (recording holdRecorder (s.taking rest), _) := if_pos armed
    obtain ⟨t, taken, mode, time, burst, lines, groups, spools, burstEnd, effects⟩ := earlyEnd_request hs hi rfl carried
    have blocks := endBurstEarly_blocks .held (s.taking rest)
    exact ⟨t, congrArg Host.Outcome.next taken, mode, time, burst,
      fun l => congrArg (·[l]) (lines.trans (congrArg Blocks.lines blocks)),
      fun g => congrArg (·[g]) (groups.trans (congrArg Blocks.groups blocks)), spools,
      burstEnd.trans (endBurstEarly_class .held _), effects⟩
  · have carried : disarmRequest [0x04] (s.taking rest) = (recording disarmRecorder (s.taking rest), _) := if_neg active
    obtain ⟨t, taken, mode, time, burst, lines, groups, spools, burstEnd, effects⟩ := earlyEnd_request hs hi rfl carried
    have blocks := endBurstEarly_blocks .disarmed (s.taking rest)
    exact ⟨t, congrArg Host.Outcome.next taken, mode, time, burst,
      disarmed_line (lines.trans (congrArg (fun b : Blocks => mapV Line.disarm b.lines) blocks)),
      disarmed_group (groups.trans (congrArg (fun b : Blocks => mapV _ b.groups) blocks)), spools,
      burstEnd.trans (endBurstEarly_class .disarmed _), effects⟩

end Sys2Proof.Machine
end

section
/-! Soft RESET (R128 to R130): what each of its three parts clears, and the whole as one event. -/

namespace Sys2Proof.Machine

/-! ### The parts of a soft RESET -/

theorem resetReadout_spools (s : State) : (resetReadout s).spools = s.spools := rfl
theorem resetReadout_notes (s : State) : (resetReadout s).notes = s.notes := rfl
theorem resetNotes_spools (s : State) : (resetNotes s).spools = s.spools := rfl
theorem resetNotes_cursors (s : State) : (resetNotes s).cursors = s.cursors := rfl
theorem resetNotes_class (s : State) (n : ClassNo) : (resetNotes s).notes.classes[n] = s.notes.classes[n].clear :=
  mapV_get _ _ _

theorem resetReadout_cursor (s : State) (k : CursorNo) :
    (resetReadout s).cursors[k] = { state := .closed, inFlight := none } := Vector.getElem_replicate k.isLt

/-- Soft RESET drops the reservation of an open burst and touches no other spool (R25, R114). -/
theorem abandonBurst_spool (s : State) (i : SpoolNo) : (abandonBurst s).spools[i] =
    if s.burst.phase.isOn i then s.spools[i].abandonBurst else s.spools[i] := by
  unfold abandonBurst
  cases s.burst.phase with
  | isOpen b =>
    refine (setSpool_spool b.spool i _ s).trans ?_
    split
    · next e =>
      subst e
      exact (if_pos (isOn_self b)).symm
    · next e => exact (if_neg (ne_true_of_eq_false (isOn_other e))).symm
  | idle => rfl
  | cooldown => rfl

/-- The recording blocks after a soft RESET (R128). -/
theorem resetRecording_frame (s : State) : resetRecording s = { s with
    mode := .setup, lines := mapV Line.disarm s.lines, groups := mapV (fun gr : Group => { gr with state := .off }) s.groups,
    spools := (abandonBurst s).spools, burst := s.burst.ended } := by
  unfold resetRecording abandonBurst
  cases s.burst.phase <;> rfl

/-- Soft RESET laps no cursor, so its event ends with the near-full comparisons alone (R24). -/
theorem recording_resetRecording (s : State) : recording resetRecording s = { resetRecording s with
    spools := (recording resetRecording s).spools, notes := (recording resetRecording s).notes } := by
  have cursors : (resetRecording s).cursors = s.cursors := (congrArg State.cursors (resetRecording_frame s) :)
  have ended := closeEvent_frame (lappedEnds_same cursors)
  rw [List.append_nil] at ended
  exact ended

/-! ### The whole of a soft RESET -/

theorem softReset_spool (s : State) (i : SpoolNo) : (softReset s).spools[i] =
    if s.burst.phase.isOn i then Spool.atEventEnd s.spools[i] s.spools[i].abandonBurst else s.spools[i] := by
  have spools : (resetRecording s).spools = (abandonBurst s).spools := (congrArg State.spools (resetRecording_frame s) :)
  rw [softReset, resetNotes_spools, resetReadout_spools, recording, closeEvent_spool, spools, abandonBurst_spool]
  split
  · rfl
  · exact Spool.atEventEnd_self _

theorem softReset_cursor (s : State) (k : CursorNo) : (softReset s).cursors[k] = { state := .closed, inFlight := none } := by
  rw [softReset, resetNotes_cursors, resetReadout_cursor]

/-- A class after a soft RESET keeps its settings and its note number, whatever the event raised (R129, R205). -/
theorem softReset_class (s : State) (n : ClassNo) : (softReset s).notes.classes[n] = s.notes.classes[n].clear := by
  have notes : (resetRecording s).notes = s.notes := (congrArg State.notes (resetRecording_frame s) :)
  obtain ⟨-, classes⟩ := closeEvent_classes s (resetRecording s)
  rw [softReset, resetNotes_class, resetReadout_notes, recording, classes n, notes]
  rfl

/-- The whole of a soft RESET (R128 to R130). -/
theorem softReset_frame (s : State) : softReset s = { s with
    mode := .setup, lines := mapV Line.disarm s.lines, groups := mapV (fun gr : Group => { gr with state := .off }) s.groups,
    spools := (softReset s).spools, cursors := (softReset s).cursors, burst := s.burst.ended,
    notes := { classes := (softReset s).notes.classes, credit := 0 },
    link := { s.link with replyQueue := s.link.replyQueue.filter fun f => !f.isStreamEnd } } := by
  have recorded := recording_resetRecording s
  rw [resetRecording_frame] at recorded
  exact congrArg (fun u => resetNotes (resetReadout u)) recorded

/-- A cleared class does not ask for attention (R203). -/
theorem NoteClass.clear_attn (c : NoteClass) : c.clear.attn = false := by
  simp [NoteClass.attn, NoteClass.clear, NoteClass.state]

theorem attnAsserted_cleared {s : State} (h : ∀ n : ClassNo, s.notes.classes[n].attn = false) : attnAsserted s = false := by
  have silent : s.notes.classes.toList.any NoteClass.attn = false := by
    simp only [List.any_eq_false, Vector.mem_toList_iff, Vector.mem_iff_getElem]
    rintro _ ⟨i, hi, rfl⟩
    exact ne_true_of_eq_false (h ⟨i, hi⟩)
  rw [attnAsserted, silent, Bool.and_false]

/-- Settles O14: each block is cleared as its part of the soft RESET says, and the reply follows. -/
theorem softResetCarriedOut : Obligations.SoftResetCarriedOut := by
  intro s tag rest hs hi
  let v := s.taking rest
  have taken := awake_serve (f := resetRequest) hs hi rfl
  rw [show resetRequest [0x05] v = (softReset v, ⟨.ok, .empty⟩) from rfl, makeReady_eq] at taken
  have frame := softReset_frame v
  have spools := softReset_spool v
  have cursors := softReset_cursor v
  have classes := softReset_class v
  generalize softReset v = t at taken frame spools cursors classes
  refine ⟨_, congrArg Host.Outcome.next taken, disarmed_line (congrArg State.lines frame :),
    disarmed_group (congrArg State.groups frame :), fun i => ?_, cursors, classes,
    attnAsserted_cleared fun n => ?_, ?_⟩
  · refine (spools i).trans ?_
    show (if s.burst.phase.isOn i then _ else _) = _
    cases s.burst.phase with
    | isOpen b => exact if_congr decide_eq_true_iff rfl rfl
    | idle => rfl
    | cooldown => rfl
  · exact (congrArg NoteClass.attn (classes n)).trans (NoteClass.clear_attn _)
  · rw [frame]
    rfl

end Sys2Proof.Machine
end

section
/-! The requests on cursors: what their payloads give back (R136 to R154, R214), and the events that answer them. -/

namespace Sys2Proof.Machine

/-! ### Payloads -/

/-- A signed count sent in two's complement is read back (R142, R143, R213). -/
theorem signedCount_twosComplement {n : Int} (hlo : -32768 ≤ n) (hhi : n ≤ 32767) (h0 : n ≠ 0) :
    signedCount (n % 65536).toNat = some n := by
  unfold signedCount
  rw [if_neg (by omega)]
  split <;> exact congrArg some (by omega)

theorem yesNo_boolByte (b : Bool) : yesNo (boolByte b).toNat = some b := by cases b <;> rfl

/-- CLOSE_CURSOR and STOP_STREAM (R138, R154). -/
theorem decodeCursor_payload (code : Byte) (c : CursorNo) : decodeCursor [code, byte c.val] = some c :=
  below_byte (by decide) c

/-- READ (R140). -/
theorem decodeRead_payload (c : CursorNo) {k : Nat} (h1 : 1 ≤ k) (h8 : k ≤ 8) :
    decodeRead [0x42, byte c.val, byte k] = some (c, k) := by
  have cursor : below 4 (byteAt [0x42, byte c.val, byte k] 1) = some c := below_byte (by decide) c
  have count : inRange 1 8 (byteAt [0x42, byte c.val, byte k] 2) = some k := inRange_byte (by omega) h1 h8
  rw [decodeRead, cursor, count]
  rfl

/-- SPACE and SKIP (R142, R143). -/
theorem decodeMove_payload (code : Byte) (c : CursorNo) {n : Int} (hlo : -32768 ≤ n) (hhi : n ≤ 32767) (h0 : n ≠ 0) :
    decodeMove (Payload.move code c n) = some (c, n) := by
  have cursor : below 4 (byteAt (Payload.move code c n) 1) = some c := below_byte (by decide) c
  have count : field (Payload.move code c n) 2 2 = (n % 65536).toNat := field_last [_, _] 2 _ (by omega)
  rw [decodeMove, cursor, count, signedCount_twosComplement hlo hhi h0]
  rfl

/-- STREAM (R149). -/
theorem decodeStream_payload (c : CursorNo) {count : Nat} (follow : Bool) (h : count ≤ 65535) :
    decodeStream (Payload.stream c count follow) = some (c, count, follow) := by
  have cursor : below 4 (byteAt (Payload.stream c count follow) 1) = some c := below_byte (by decide) c
  have records : field (Payload.stream c count follow) 2 2 = count := field_append [_, _] [_] 2 count (by omega)
  have flag : yesNo (byteAt (Payload.stream c count follow) 4) = some follow := yesNo_boolByte follow
  rw [decodeStream, cursor, records, flag]
  rfl

/-- The start of an OPEN_CURSOR (R136). -/
theorem startOf_payload (c : CursorNo) (i : SpoolNo) {st : Start} (hseq : ∀ n, st = .seq n → n ≤ max48)
    (hseg : ∀ g, st = .segment g → g ≤ max32) : startOf (Payload.openCursor c i st) = some st := by
  cases st with
  | oldest | newest | atEnd => rfl
  | seq n =>
    have sent : field (Payload.openCursor c i (.seq n)) 4 6 = n :=
      field_last [_, _, _, _] 6 n (Nat.lt_of_le_of_lt (hseq n rfl) (by decide))
    exact congrArg (fun n => some (Start.seq n)) sent
  | segment g =>
    have sent : field (Payload.openCursor c i (.segment g)) 4 4 = g :=
      field_append [_, _, _, _] [0, 0] 4 g (Nat.lt_of_le_of_lt (hseg g rfl) (by decide))
    exact congrArg (fun g => some (Start.segment g)) sent

/-- OPEN_CURSOR (R136). -/
theorem decodeOpenCursor_payload (c : CursorNo) (i : SpoolNo) {st : Start} (hseq : ∀ n, st = .seq n → n ≤ max48)
    (hseg : ∀ g, st = .segment g → g ≤ max32) :
    decodeOpenCursor (Payload.openCursor c i st) = some (c, i, st) := by
  have cursor : below 4 (byteAt (Payload.openCursor c i st) 1) = some c := below_byte (by decide) c
  have spool : below 4 (byteAt (Payload.openCursor c i st) 2) = some i := below_byte (by decide) i
  rw [decodeOpenCursor, cursor, spool, startOf_payload c i hseq hseg]
  rfl

/-- LIST_SEGMENTS (R144). -/
theorem decodeListSegments_payload (i : SpoolNo) {start count : Nat} (hs : start ≤ max32) (h1 : 1 ≤ count)
    (h8 : count ≤ 8) : decodeListSegments (Payload.listSegments i start count) = some (i, start, count) := by
  have spool : below 4 (byteAt (Payload.listSegments i start count) 1) = some i := below_byte (by decide) i
  have most : inRange 1 8 (byteAt (Payload.listSegments i start count) 6) = some count := inRange_byte (by omega) h1 h8
  have first : field (Payload.listSegments i start count) 2 4 = start :=
    field_append [_, _] [_] 4 start (Nat.lt_of_le_of_lt hs (by decide))
  rw [decodeListSegments, spool, most, first]
  rfl

/-! ### The events -/

/-- A request whose meaning makes `ends` ready before its reply, a reply of one frame or two (R141, R153). -/
theorem awake_serve_frames {s t : State} {row : Instr} {f : List Byte → State → State × Reply} {tag code : Byte}
    {fields : List Byte} {rest : List Request} {r : Reply} {ends : List Frame} (hs : s.inReset = false)
    (hi : s.link.intake = ⟨tag, code :: fields⟩ :: rest) (hrow : Request.row ⟨tag, code :: fields⟩ = row)
    (hf : f (code :: fields) (s.taking rest) = (t, r))
    (hl : t.link = { (s.taking rest).link with replyQueue := s.link.replyQueue ++ ends }) :
    awake (serve row f) s =
      { t with link := s.link.answered tag rest (ends ++ replyFrames tag (some code) r) } := by
  rw [awake_serve hs hi hrow, hf, makeReady_eq, hl]
  simp only [Link.answered, List.append_assoc]
  rfl

/-- A position as replies give it, with its at-END flag (R206). -/
theorem Spool.replyPosition_eq (sp : Spool) (pos : Nat) : sp.replyPosition pos = ⟨pos, decide (pos = sp.nextSeq)⟩ := rfl

/-- On an enabled spool that is not ERASING both checks of the spool pass. -/
theorem Spool.ite_ready {α : Type} {sp : Spool} (hc : sp.enabled = true) (hx : sp.erasing = none) (a b go : α) :
    (if sp.enabled = false then a else if sp.erasing.isSome then b else go) = go := by
  rw [if_neg (by rw [hc]; exact nofun), if_neg (by rw [hx]; exact nofun)]

section OnCursor

variable {s : State} {c : CursorNo} {body : Position → Body} {k : SpoolNo → Nat → State → State × Reply} {i : SpoolNo}

/-- The spool a cursor is open or lapped on (R133). -/
def Cursor.On (cu : Cursor) (i : SpoolNo) : Prop := (∃ p, cu.place? = some (i, p)) ∨ cu.state = .lapped i

/-- The cursors on a spool, by state. -/
theorem Cursor.on_iff {cu : Cursor} : cu.On i ↔
    (∃ p, cu.state = .positioned i p) ∨ (∃ p n f, cu.state = .streaming i p n f) ∨ cu.state = .lapped i := by
  unfold Cursor.On Cursor.place?
  cases cu.state <;> simp

/-- Check 1 of R139. -/
theorem onCursor_closed (h : s.cursors[c].state = .closed) : onCursor c body k s = refuse .noCursor s := by
  rw [onCursor, h]

/-- Check 2 of R139. -/
theorem onCursor_disabled (h : s.cursors[c].On i) (hc : s.spools[i].capacity = 0) :
    onCursor c body k s = refuse .spoolDisabled s := by
  have off : s.spools[i].enabled = false := Spool.disabled_iff.2 hc
  obtain ⟨p, h⟩ | ⟨p, n, f, h⟩ | h := Cursor.on_iff.1 h <;> rw [onCursor, h] <;> exact if_pos off

/-- Check 3 of R139. -/
theorem onCursor_erasing (h : s.cursors[c].On i) (hc : s.spools[i].capacity ≠ 0) (hx : s.spools[i].erasing ≠ none) :
    onCursor c body k s = refuse .spoolBusy s := by
  have on : ¬ s.spools[i].enabled = false := mt Spool.disabled_iff.1 hc
  have busy : s.spools[i].erasing.isSome = true := Option.isSome_iff_ne_none.2 hx
  obtain ⟨p, h⟩ | ⟨p, n, f, h⟩ | h := Cursor.on_iff.1 h <;> rw [onCursor, h] <;>
    exact (if_neg on).trans (if_pos busy)

section Ready

variable (hc : s.spools[i].enabled = true) (hx : s.spools[i].erasing = none)
include hc hx

/-- Where its spool is ready, check 4 of R139 meets a STREAMING cursor. -/
theorem onCursor_streaming {p : Nat} {n : Option Nat} {f : Bool} (h : s.cursors[c].state = .streaming i p n f) :
    onCursor c body k s = refuse .cursorBusy s := by
  rw [onCursor, h]
  dsimp only
  rw [Spool.ite_ready hc hx]

/-- A LAPPED cursor becomes POSITIONED at the oldest held record, or END (R147). -/
theorem onCursor_lapped (h : s.cursors[c].state = .lapped i) : onCursor c body k s =
    (moveCursor c i (s.spools[i].positionAt 0) s,
      ⟨.lapped, body (s.spools[i].replyPosition (s.spools[i].positionAt 0))⟩) := by
  rw [onCursor, h]
  dsimp only
  rw [Spool.ite_ready hc hx]
  rfl

/-- The request is carried out on a POSITIONED cursor (R139). -/
theorem onCursor_positioned {pos : Nat} (h : s.cursors[c].state = .positioned i pos) :
    onCursor c body k s = k i pos s := by
  rw [onCursor, h]
  dsimp only
  rw [Spool.ite_ready hc hx]

end Ready

end OnCursor

/-- The oldest held sequence, or END (R134). -/
theorem Spool.positionAt_zero (sp : Spool) : sp.positionAt 0 = (sp.held.head?.map (·.seq)).getD sp.nextSeq := by
  rw [Spool.positionAt, List.head?_eq_getElem?]

/-- The newest held sequence, or END (R134). -/
theorem Spool.positionAt_newest (sp : Spool) :
    sp.positionAt (sp.held.length - 1) = (sp.held.getLast?.map (·.seq)).getD sp.nextSeq := by
  rw [Spool.positionAt, List.getLast?_eq_getElem?]

end Sys2Proof.Machine
end

section
/-! OPEN_CURSOR (R136, R137), and CLOSE_CURSOR, STOP_STREAM and STREAM (R138, R149, R154). -/

namespace Sys2Proof.Machine

/-- The STREAM_END frame that a request makes ready for the stream of its cursor, where one runs (R153). -/
def streamEnds (s : State) (c : CursorNo) (reason : StreamEnd) : List Frame :=
  match s.cursors[c].state with
  | .streaming _ _ _ _ => [.streamEnd c reason]
  | _ => []

theorem endStream_eq (c : CursorNo) (reason : StreamEnd) (s : State) : endStream c reason s =
    { s with link := { s.link with replyQueue := s.link.replyQueue ++ streamEnds s c reason } } := by
  unfold endStream streamEnds
  cases s.cursors[c].state with
  | streaming => rfl
  | closed | positioned | lapped => rw [List.append_nil]

theorem streamEnds_streaming {s : State} {c : CursorNo} {reason : StreamEnd} {i : SpoolNo} {p : Nat} {n : Option Nat}
    {f : Bool} (h : s.cursors[c].state = .streaming i p n f) : streamEnds s c reason = [.streamEnd c reason] := by
  rw [streamEnds, h]

theorem streamEnds_idle {s : State} {c : CursorNo} {reason : StreamEnd}
    (h : (∃ i p, s.cursors[c].state = .positioned i p) ∨ ∃ i, s.cursors[c].state = .lapped i) :
    streamEnds s c reason = [] := by
  obtain ⟨i, p, h⟩ | ⟨i, h⟩ := h <;> rw [streamEnds, h]

/-- The held record's position, or END, that a start names (R136). -/
def Spool.startTarget (sp : Spool) : Start → Option Nat
  | .oldest => some ((sp.held.head?.map (·.seq)).getD sp.nextSeq)
  | .newest => some ((sp.held.getLast?.map (·.seq)).getD sp.nextSeq)
  | .atEnd => some sp.nextSeq
  | .seq n => if n ∈ sp.held.map (·.seq) then some n else none
  | .segment g => (sp.held.find? fun r => r.seg = g).map (·.seq)

/-- The refusal of a start that nothing held fits (R136). -/
def Start.refusal : Start → Status
  | .segment _ => .noSuchSegment
  | _ => .noSuchRecord

theorem Spool.holds_iff_mem {sp : Spool} {n : Nat} : sp.holds n = true ↔ n ∈ sp.held.map (·.seq) := by
  rw [Spool.holds_iff, List.mem_map]

/-- A start gives its target's position, or its refusal where nothing held fits it (R136). -/
theorem startPosition_eq (sp : Spool) (st : Start) : startPosition sp st =
    match sp.startTarget st with
    | some pos => .ok pos
    | none => .error st.refusal := by
  cases st with
  | oldest => exact congrArg Except.ok sp.positionAt_zero
  | newest => exact congrArg Except.ok sp.positionAt_newest
  | atEnd => rfl
  | seq n =>
    dsimp only [startPosition, Spool.startTarget]
    by_cases h : n ∈ sp.held.map (·.seq)
    · rw [if_pos (Spool.holds_iff_mem.2 h), if_pos h]
    · rw [if_neg (mt Spool.holds_iff_mem.1 h), if_neg h]
      rfl
  | segment g =>
    have same : (sp.held.find? fun r => r.seg == g) = sp.held.find? fun r => decide (r.seg = g) := rfl
    dsimp only [startPosition, Spool.startTarget]
    rw [same]
    cases sp.held.find? fun r => decide (r.seg = g) <;> rfl

/-- What an OPEN_CURSOR on an enabled spool that is not ERASING answers (R137). -/
theorem openCursorRequest_ready {s : State} {c : CursorNo} {i : SpoolNo} {st : Start}
    (hseq : ∀ n, st = .seq n → n ≤ max48) (hseg : ∀ g, st = .segment g → g ≤ max32)
    (hc : s.spools[i].enabled = true) (hx : s.spools[i].erasing = none) :
    openCursorRequest (Payload.openCursor c i st) s =
      match s.spools[i].startTarget st with
      | some pos => ((endStream c .closed s).setCursor c { state := .positioned i pos, inFlight := none },
          ⟨.ok, .opened (s.spools[i].replyPosition pos) s.spools[i].ends⟩)
      | none => refuse st.refusal s := by
  rw [openCursorRequest, decodeOpenCursor_payload c i hseq hseg, withFields_some]
  dsimp only
  rw [Spool.ite_ready hc hx, startPosition_eq]
  cases s.spools[i].startTarget st <;> rfl

/-- Settles O27: the start's target is opened after the end of a running stream, or refused where there is none. -/
theorem cursorOpened : Obligations.CursorOpened := by
  intro s tag rest c i st hs hseq hseg hi hc hx
  have carried := openCursorRequest_ready (s := s.taking rest) (c := c) hseq hseg hc hx
  refine ⟨fun pos target => ⟨streamEnds s c .closed, rfl, ?_⟩, fun target => ?_⟩
  · have found : s.spools[i].startTarget st = some pos := by cases st <;> exact target
    rw [show (s.taking rest).spools[i].startTarget st = some pos from found, endStream_eq] at carried
    exact congrArg Host.Outcome.next (awake_serve_frames hs hi (by cases st <;> rfl) carried rfl)
  · have missing : s.spools[i].startTarget st = none := by cases st <;> exact target
    rw [show (s.taking rest).spools[i].startTarget st = none from missing] at carried
    exact congrArg Host.Outcome.next (awake_serve_unchanged (st := st.refusal) (body := .empty) hs hi
      (by cases st <;> rfl) carried nofun)

/-- What a CLOSE_CURSOR of an open or lapped cursor answers (R138). -/
theorem closeCursorRequest_open {s : State} {c : CursorNo} (h : s.cursors[c].state ≠ .closed) :
    closeCursorRequest [0x41, byte c.val] s =
      ((endStream c .closed s).setCursor c { state := .closed, inFlight := none }, ⟨.ok, .closed false⟩) := by
  rw [closeCursorRequest, decodeCursor_payload, withFields_some]
  split
  · next hstate => exact absurd hstate h
  · rfl

/-- What a CLOSE_CURSOR of a closed cursor answers (R138). -/
theorem closeCursorRequest_closed {s : State} {c : CursorNo} (h : s.cursors[c].state = .closed) :
    closeCursorRequest [0x41, byte c.val] s = (s, ⟨.ok, .closed true⟩) := by
  rw [closeCursorRequest, decodeCursor_payload, withFields_some, h]

/-- What a STOP_STREAM answers, by cursor state (R154). -/
theorem stopStreamRequest_eq (s : State) (c : CursorNo) : stopStreamRequest [0x46, byte c.val] s =
    match s.cursors[c].state with
    | .closed => refuse .noCursor s
    | .streaming i pos _ _ => (moveCursor c i pos (pushFrame (.streamEnd c .stopped) s),
        ⟨.ok, .stopped (some (s.spools[i].replyPosition pos))⟩)
    | _ => (s, ⟨.ok, .stopped none⟩) := by
  rw [stopStreamRequest, decodeCursor_payload]
  rfl

/-- Settles O28: CLOSE_CURSOR and STOP_STREAM by cursor state, and STREAM where R139 lets it through. -/
theorem streamsStartedAndCursorsClosed : Obligations.StreamsStartedAndCursorsClosed := by
  intro s tag rest c hs
  refine ⟨fun hi => ⟨fun closed => ?_, fun idle => ?_, fun i p n f streaming => ?_⟩,
    fun hi => ⟨fun closed => ?_, fun idle => ?_, fun i p n f streaming => ?_⟩,
    fun i pos count follow hcount hi hc hx positioned => ?_⟩
  · exact congrArg Host.Outcome.next (awake_serve_unchanged hs hi rfl
      (closeCursorRequest_closed (s := s.taking rest) closed) nofun)
  · have carried := closeCursorRequest_open (s := s.taking rest) (c := c) (by
      obtain ⟨_, _, h⟩ | ⟨_, h⟩ := idle <;> exact h ▸ nofun)
    rw [endStream_eq, streamEnds_idle (s := s.taking rest) idle] at carried
    exact congrArg Host.Outcome.next (awake_serve_frames (ends := []) hs hi rfl carried rfl)
  · have carried := closeCursorRequest_open (s := s.taking rest) (c := c) (streaming ▸ nofun)
    rw [endStream_eq, streamEnds_streaming (s := s.taking rest) streaming] at carried
    exact congrArg Host.Outcome.next (awake_serve_frames hs hi rfl carried rfl)
  · have carried := stopStreamRequest_eq (s.taking rest) c
    rw [show (s.taking rest).cursors[c].state = .closed from closed] at carried
    exact congrArg Host.Outcome.next (awake_serve_unchanged (body := .empty) hs hi rfl carried nofun)
  · have carried := stopStreamRequest_eq (s.taking rest) c
    refine congrArg Host.Outcome.next (awake_serve_unchanged (st := .ok) (body := .stopped none) hs hi rfl ?_ nofun)
    obtain ⟨i, p, h⟩ | ⟨i, h⟩ := idle
    all_goals
      rw [show (s.taking rest).cursors[c].state = _ from h] at carried
      exact carried
  · have carried := stopStreamRequest_eq (s.taking rest) c
    rw [show (s.taking rest).cursors[c].state = _ from streaming] at carried
    exact congrArg Host.Outcome.next (awake_serve_frames (ends := [.streamEnd c .stopped]) hs hi rfl carried rfl)
  · refine congrArg Host.Outcome.next (awake_serve_answered (f := streamRequest)
      (t := (s.taking rest).setCursor c { s.cursors[c] with
        state := .streaming i pos (if count = 0 then none else some count) follow }) hs hi rfl ?_ rfl nofun)
    show streamRequest (Payload.stream c count follow) (s.taking rest) = _
    rw [streamRequest, decodeStream_payload c follow hcount, withFields_some]
    exact onCursor_positioned (s := s.taking rest) hc hx positioned

end Sys2Proof.Machine
end

section
/-! The positions of a spool that numbers its records consecutively (R13, R134), and READ and SPACE on them (R140 to R142). -/

namespace Sys2Proof.Machine

/-! ### Positions -/

section Consecutive

variable {sp : Spool} {idx : Nat}

theorem Spool.positionAt_length (sp : Spool) : sp.positionAt sp.held.length = sp.nextSeq := by
  rw [Spool.positionAt, List.getElem?_eq_none le_rfl]
  rfl

theorem Spool.positionAt_of_lt (h : idx < sp.held.length) : sp.positionAt idx = sp.held[idx].seq := by
  rw [Spool.positionAt, List.getElem?_eq_getElem h]
  rfl

variable (cons : sp.consecutive) (h : idx ≤ sp.held.length)
include cons h

/-- A place lies as far before END as records are held from it on (R13, R134). -/
theorem Spool.positionAt_add : sp.positionAt idx + (sp.held.length - idx) = sp.nextSeq := by
  obtain rfl | lt := Nat.eq_or_lt_of_le h
  · rw [Spool.positionAt_length, Nat.sub_self, Nat.add_zero]
  · rw [Spool.positionAt_of_lt lt]
    exact cons idx lt

theorem Spool.positionAt_eq : sp.positionAt idx = sp.nextSeq - (sp.held.length - idx) := by
  have := Spool.positionAt_add cons h
  omega

/-- END is the place past the newest record. -/
theorem Spool.positionAt_eq_nextSeq : sp.positionAt idx = sp.nextSeq ↔ idx = sp.held.length := by
  have := Spool.positionAt_add cons h
  omega

/-- The place of a position is the one it was counted out from. -/
theorem Spool.indexOf_positionAt : sp.indexOf (sp.positionAt idx) = idx := by
  have here := Spool.positionAt_add cons h
  have other : ∀ j (hj : j < sp.held.length), j ≠ idx → sp.held[j].seq ≠ sp.positionAt idx := fun j hj ne => by
    have := cons j hj
    omega
  unfold Spool.indexOf
  obtain rfl | lt := Nat.eq_or_lt_of_le h
  · refine List.findIdx_eq_length.2 fun r hr => ?_
    obtain ⟨j, hj, rfl⟩ := List.getElem_of_mem hr
    exact beq_eq_false_iff_ne.2 (other j hj hj.ne)
  · refine (List.findIdx_eq lt).2 ⟨beq_iff_eq.2 (Spool.positionAt_of_lt lt).symm, fun j hj => ?_⟩
    exact beq_eq_false_iff_ne.2 (other j (hj.trans lt) hj.ne)

end Consecutive

/-! ### READ -/

/-- The frames of a READ reply: one up to 6 records, two beyond (R141). -/
theorem replyFrames_read (tag : Byte) (code : Option Byte) (st : Status) (rs : List Record) (pos : Option Position) :
    replyFrames tag code ⟨st, .read false rs pos⟩ =
      if rs.length ≤ 6 then [.reply tag code ⟨st, .read false rs pos⟩ true]
      else [.reply tag code ⟨st, .read true (rs.take 6) none⟩ false,
            .reply tag code ⟨st, .read false (rs.drop 6) pos⟩ true] := rfl

/-- Setting a cursor as it stands changes nothing. -/
theorem setCursor_self (s : State) (c : CursorNo) : s.setCursor c s.cursors[c] = s := by
  have same : s.cursors.set c s.cursors[c] = s.cursors := Vector.set_getElem_self _
  rw [State.setCursor, same]

/-- A move to the position at which a cursor stands changes nothing. -/
theorem moveCursor_self {s : State} {c : CursorNo} {i : SpoolNo} {pos : Nat} (h : s.cursors[c].state = .positioned i pos) :
    moveCursor c i pos s = s := by
  have stands : { s.cursors[c] with state := .positioned i pos } = s.cursors[c] := by rw [← h]
  rw [moveCursor, stands, setCursor_self]

section Read

variable {s : State} {c : CursorNo} {i : SpoolNo} {k idx : Nat}

/-- READ at END (R140). -/
theorem readAt_end (cons : s.spools[i].consecutive) :
    readAt c k i s.spools[i].nextSeq s = (s, ⟨.atEnd, .read false [] (some ⟨s.spools[i].nextSeq, true⟩)⟩) := by
  have place : s.spools[i].indexOf s.spools[i].nextSeq = s.spools[i].held.length :=
    (congrArg _ s.spools[i].positionAt_length.symm).trans (Spool.indexOf_positionAt cons le_rfl)
  have atEnd : s.spools[i].replyPosition s.spools[i].nextSeq = ⟨s.spools[i].nextSeq, true⟩ := by
    rw [Spool.replyPosition_eq, decide_eq_true rfl]
  unfold readAt
  dsimp only
  rw [place, List.drop_length, List.take_nil, atEnd]
  rfl

/-- READ at a held record (R140). -/
theorem readAt_held (cons : s.spools[i].consecutive) (h : idx < s.spools[i].held.length) (hk : 1 ≤ k) :
    readAt c k i (s.spools[i].positionAt idx) s =
      (moveCursor c i (min (s.spools[i].positionAt idx + k) s.spools[i].nextSeq) s,
        ⟨.ok, .read false ((s.spools[i].held.drop idx).take k)
          (some (s.spools[i].replyPosition (min (s.spools[i].positionAt idx + k) s.spools[i].nextSeq)))⟩) := by
  have count : ((s.spools[i].held.drop idx).take k).length = min k (s.spools[i].held.length - idx) := by
    rw [List.length_take, List.length_drop]
  have some_record : ((s.spools[i].held.drop idx).take k).isEmpty = false := by
    rw [List.isEmpty_eq_false_iff, ← List.length_pos_iff]
    omega
  have past : s.spools[i].positionAt (idx + min k (s.spools[i].held.length - idx))
      = min (s.spools[i].positionAt idx + k) s.spools[i].nextSeq := by
    have start := Spool.positionAt_add cons h.le
    have stop := Spool.positionAt_add (idx := idx + min k (s.spools[i].held.length - idx)) cons (by omega)
    omega
  unfold readAt
  dsimp only
  rw [Spool.indexOf_positionAt cons h.le, some_record, count, past]
  rfl

/-- A READ taken with its cursor POSITIONED on a spool that is ready (R139, R140). -/
theorem readRequest_positioned {pos : Nat} (h1 : 1 ≤ k) (h8 : k ≤ 8) (hc : s.spools[i].enabled = true)
    (hx : s.spools[i].erasing = none) (h : s.cursors[c].state = .positioned i pos) :
    readRequest [0x42, byte c.val, byte k] s = readAt c k i pos s := by
  rw [readRequest, decodeRead_payload c h1 h8, withFields_some]
  exact onCursor_positioned hc hx h

end Read

/-- Settles O29: at END nothing is read and the cursor stays; at a record the cursor moves past what was copied. -/
theorem readCopiesRecords : Obligations.ReadCopiesRecords := by
  intro s tag rest c i k idx hs h1 h8 hi hc hx cons hidx positioned
  rw [← Spool.positionAt_eq cons hidx] at positioned
  have carried := readRequest_positioned (s := s.taking rest) h1 h8 hc hx positioned
  dsimp only
  rw [← Spool.positionAt_eq cons hidx]
  obtain rfl | lt := Nat.eq_or_lt_of_le hidx
  · rw [Spool.positionAt_length] at positioned carried ⊢
    have stays : min (s.spools[i].nextSeq + k) s.spools[i].nextSeq = s.spools[i].nextSeq := by omega
    have same : s.cursors.set c { s.cursors[c] with state := .positioned i s.spools[i].nextSeq } = s.cursors :=
      congrArg State.cursors (moveCursor_self positioned)
    rw [if_pos rfl, stays, same]
    exact congrArg Host.Outcome.next (awake_serve_answered (t := s.taking rest) hs hi rfl
      (carried.trans (readAt_end (s := s.taking rest) cons)) rfl fun _ _ _ e => by cases e; exact Nat.zero_le _)
  · rw [if_neg lt.ne, ← replyFrames_read]
    exact congrArg Host.Outcome.next (awake_serve_frames (ends := []) hs hi rfl
      (carried.trans (readAt_held (s := s.taking rest) cons lt h1)) (by simp [moveCursor, State.taking]))

/-! ### SPACE -/

/-- SPACE from a place of a consecutively numbered spool (R142): the steps made, and how the status names them. -/
theorem spaceAt_place {s : State} {c : CursorNo} {i : SpoolNo} {n : Int} {idx : Nat} (cons : s.spools[i].consecutive)
    (hidx : idx ≤ s.spools[i].held.length) :
    spaceAt c n i (s.spools[i].positionAt idx) s =
      let steps := if 0 < n then min n.toNat (s.spools[i].held.length - idx) else min (-n).toNat idx
      let pos' := s.spools[i].nextSeq - (s.spools[i].held.length - (if 0 < n then idx + steps else idx - steps))
      (moveCursor c i pos' s,
        ⟨if (steps : Int) = |n| then .ok else if 0 < n then .atEnd else .atOldest,
          .space steps (s.spools[i].replyPosition pos')⟩) := by
  have steps : (if 0 < n then min n.natAbs (s.spools[i].held.length - idx) else min n.natAbs idx)
      = if 0 < n then min n.toNat (s.spools[i].held.length - idx) else min (-n).toNat idx := by
    split <;> omega
  have made : ∀ k : Nat, (k : Int) = |n| ↔ k = n.natAbs := fun k => by
    rw [Int.abs_eq_natAbs]
    omega
  dsimp only
  simp only [made]
  rw [← Spool.positionAt_eq cons (by split <;> omega), ← steps]
  unfold spaceAt
  dsimp only
  rw [Spool.indexOf_positionAt cons hidx]

/-- Settles O30: from the place of its position the cursor makes the steps there are. -/
theorem spaceMovesByRecords : Obligations.SpaceMovesByRecords := by
  intro s tag rest c i n idx hs hlo hhi h0 hi hc hx cons hidx positioned
  rw [← Spool.positionAt_eq cons hidx] at positioned
  have carried : spaceRequest (Payload.move 0x43 c n) (s.taking rest)
      = spaceAt c n i (s.spools[i].positionAt idx) (s.taking rest) := by
    rw [spaceRequest, decodeMove_payload 0x43 c hlo hhi h0, withFields_some]
    exact onCursor_positioned (s := s.taking rest) hc hx positioned
  exact congrArg Host.Outcome.next (awake_serve_answered (t := moveCursor c i _ (s.taking rest)) hs hi rfl
    (carried.trans (spaceAt_place (s := s.taking rest) cons hidx)) rfl nofun)

end Sys2Proof.Machine
end

section
/-! SKIP (R143), and the checks of READ, SPACE, SKIP and STREAM (R139, R147). -/

namespace Sys2Proof.Machine

/-! ### SKIP -/

section Skip

variable {sp : Spool} {n : Int}

/-- The segment from which a SKIP at a position counts: its record's, or the newest held record's (R143). -/
theorem Spool.segmentAt_indexOf {pos : Nat} {here : Record} (h : sp.held.find? (fun r => decide (r.seq = pos)) = some here ∨
    ((∀ r ∈ sp.held, r.seq ≠ pos) ∧ sp.held.getLast? = some here)) :
    sp.segmentAt (sp.indexOf pos) = some here.seg := by
  have found : sp.held[sp.indexOf pos]? = sp.held.find? fun r => decide (r.seq = pos) :=
    List.find?_eq_getElem?_findIdx.symm
  rw [Spool.segmentAt, found]
  obtain h | ⟨missing, last⟩ := h
  · rw [h]
    rfl
  · rw [List.find?_eq_none.2 fun r hr => by simpa using missing r hr, last]
    rfl

/-- A SKIP in an empty spool (R143). -/
theorem Spool.skipTarget_empty (h : sp.held = []) (idx : Nat) :
    sp.skipTarget n idx = (if 0 < n then .atEnd else .atOldest, none, sp.nextSeq) := by
  simp [Spool.skipTarget, h]

variable {idx g : Nat} (at_g : sp.segmentAt idx = some g)
include at_g

/-- A SKIP to a segment with a held record (R143). -/
theorem Spool.skipTarget_found {first : Record} (h : sp.held.find? (fun r => decide ((r.seg : Int) = g + n)) = some first) :
    sp.skipTarget n idx = (.ok, some first.seg, first.seq) := by
  have ne : sp.held ≠ [] := fun e => by simp [e] at h
  unfold Spool.skipTarget
  rw [at_g, List.head?_eq_some_head ne, List.getLast?_eq_some_getLast ne]
  dsimp only
  rw [show (sp.held.find? fun r => (r.seg : Int) == g + n) = some first from h]

/-- A SKIP to a segment without one: beyond the newest or not (R143). -/
theorem Spool.skipTarget_missing {oldest newest : Record} (head : sp.held.head? = some oldest)
    (last : sp.held.getLast? = some newest) (h : ∀ r ∈ sp.held, (r.seg : Int) ≠ g + n) :
    sp.skipTarget n idx =
      if (newest.seg : Int) < g + n then (.atEnd, none, sp.nextSeq) else (.atOldest, some oldest.seg, oldest.seq) := by
  have missing : (sp.held.find? fun r => (r.seg : Int) == g + n) = none :=
    List.find?_eq_none.2 fun r hr => by simpa using h r hr
  unfold Spool.skipTarget
  rw [at_g, head, last]
  dsimp only
  rw [missing]

end Skip

/-- Settles O31: the reply and the move follow the target of the SKIP. -/
theorem skipMovesBySegments : Obligations.SkipMovesBySegments := by
  intro s tag rest c i n pos hs hlo hhi h0 hi hc hx positioned
  have carried : skipRequest (Payload.move 0x44 c n) (s.taking rest) = skipAt c n i pos (s.taking rest) := by
    rw [skipRequest, decodeMove_payload 0x44 c hlo hhi h0, withFields_some]
    exact onCursor_positioned (s := s.taking rest) hc hx positioned
  have goes : ∀ {st seg to'}, s.spools[i].skipTarget n (s.spools[i].indexOf pos) = (st, seg, to') →
      exec .skip s = .next (State.answered { s with
          cursors := s.cursors.set c { s.cursors[c] with state := .positioned i to' } } tag rest 0x44 st
        (.skip seg ⟨to', decide (to' = s.spools[i].nextSeq)⟩)) := fun {st seg to'} target => by
    have answer : skipAt c n i pos (s.taking rest) =
        (moveCursor c i to' (s.taking rest), ⟨st, .skip seg (s.spools[i].replyPosition to')⟩) := by
      rw [skipAt, show (s.taking rest).spools[i].skipTarget n ((s.taking rest).spools[i].indexOf pos) = _ from target]
      rfl
    exact congrArg Host.Outcome.next (awake_serve_answered (t := moveCursor c i to' (s.taking rest)) hs hi rfl
      (carried.trans answer) rfl nofun)
  refine ⟨fun empty => goes (Spool.skipTarget_empty empty _), fun here stands => ?_⟩
  have counted := Spool.segmentAt_indexOf stands
  refine ⟨fun first found => goes (Spool.skipTarget_found counted found), fun oldest newest head last missing => ?_⟩
  have target := Spool.skipTarget_missing counted head last missing
  exact ⟨fun beyond => goes (target.trans (if_pos beyond)), fun before => goes (target.trans (if_neg before.not_gt))⟩

/-! ### The checks -/

/-- The meaning `f` of a request of row `row` is that of a request on cursor `c` for its payload (R139). -/
structure OnCursorRequest (c : CursorNo) (row : Instr) (payload : List Byte) (code : Byte) (lapped : Position → Body)
    (f : List Byte → State → State × Reply) (k : SpoolNo → Nat → State → State × Reply) : Prop where
  meaning : ∀ s, exec row s = .next (awake (serve row f) s)
  coded : ∃ fields, payload = code :: fields
  rowed : ∀ tag, Request.row ⟨tag, payload⟩ = row
  carried : ∀ s, f payload s = onCursor c lapped k s
  frames : ∀ pos b rs p, lapped pos = .read b rs p → rs.length ≤ Config.recordsPerFrame

namespace OnCursorRequest

variable {c : CursorNo}

theorem read {k : Nat} (h1 : 1 ≤ k) (h8 : k ≤ 8) : OnCursorRequest c .read [0x42, byte c.val, byte k] 0x42
    (fun p => .read false [] (some p)) readRequest (readAt c k) where
  meaning _ := rfl
  coded := ⟨_, rfl⟩
  rowed _ := rfl
  carried s := by rw [readRequest, decodeRead_payload c h1 h8, withFields_some]
  frames _ _ _ _ e := by cases e; exact Nat.zero_le _

theorem space {n : Int} (hlo : -32768 ≤ n) (hhi : n ≤ 32767) (h0 : n ≠ 0) :
    OnCursorRequest c .space (Payload.move 0x43 c n) 0x43 .position spaceRequest (spaceAt c n) where
  meaning _ := rfl
  coded := ⟨_, rfl⟩
  rowed _ := rfl
  carried s := by rw [spaceRequest, decodeMove_payload 0x43 c hlo hhi h0, withFields_some]
  frames := nofun

theorem skip {n : Int} (hlo : -32768 ≤ n) (hhi : n ≤ 32767) (h0 : n ≠ 0) :
    OnCursorRequest c .skip (Payload.move 0x44 c n) 0x44 .position skipRequest (skipAt c n) where
  meaning _ := rfl
  coded := ⟨_, rfl⟩
  rowed _ := rfl
  carried s := by rw [skipRequest, decodeMove_payload 0x44 c hlo hhi h0, withFields_some]
  frames := nofun

theorem stream {count : Nat} (follow : Bool) (h : count ≤ 65535) :
    OnCursorRequest c .stream (Payload.stream c count follow) 0x45 .position streamRequest (streamAt c count follow) where
  meaning _ := rfl
  coded := ⟨_, rfl⟩
  rowed _ := rfl
  carried s := by rw [streamRequest, decodeStream_payload c follow h, withFields_some]
  frames := nofun

variable {s : State} {tag : Byte} {rest : List Request} {row : Instr} {payload : List Byte} {code : Byte}
  {lapped : Position → Body} {f : List Byte → State → State × Reply} {k : SpoolNo → Nat → State → State × Reply}
  (req : OnCursorRequest c row payload code lapped f k) (hs : s.inReset = false)
  (hi : s.link.intake = ⟨tag, payload⟩ :: rest)
include req hs hi

/-- One that the checks refuse changes nothing (R139). -/
theorem refused {st : Status} (h : onCursor c lapped k (s.taking rest) = refuse st (s.taking rest)) :
    exec row s = .next (s.answered tag rest code st .empty) := by
  obtain ⟨fields, rfl⟩ := req.coded
  rw [req.meaning]
  exact congrArg Host.Outcome.next (awake_serve_unchanged hs hi (req.rowed tag) ((req.carried _).trans h) nofun)

/-- One on a LAPPED cursor moves it to the oldest record, or END, and does nothing else (R147). -/
theorem answered_lapped {i : SpoolNo} (hc : s.spools[i].enabled = true) (hx : s.spools[i].erasing = none)
    (h : s.cursors[c].state = .lapped i) :
    let pos := (s.spools[i].held.head?.map (·.seq)).getD s.spools[i].nextSeq
    exec row s = .next (State.answered { s with
        cursors := s.cursors.set c { s.cursors[c] with state := .positioned i pos } } tag rest code .lapped
      (lapped ⟨pos, decide (pos = s.spools[i].nextSeq)⟩)) := by
  obtain ⟨fields, rfl⟩ := req.coded
  rw [req.meaning, ← Spool.positionAt_zero]
  exact congrArg Host.Outcome.next (awake_serve_answered (t := moveCursor c i _ (s.taking rest)) hs hi
    (req.rowed tag) ((req.carried _).trans (onCursor_lapped (s := s.taking rest) hc hx h)) rfl (req.frames _))

end OnCursorRequest

/-- Settles O32: the four requests are one request on a cursor, whose checks follow R139's order. -/
theorem cursorChecks : Obligations.CursorChecks := by
  intro s tag rest c row payload code lapped hs hi form
  obtain ⟨f, k, req⟩ : ∃ f k, OnCursorRequest c row payload code lapped f k := by
    obtain ⟨k, h1, h8, rfl, rfl, rfl, rfl⟩ | ⟨n, hlo, hhi, h0, rfl, ⟨rfl, rfl, rfl⟩ | ⟨rfl, rfl, rfl⟩⟩ |
      ⟨count, follow, hcount, rfl, rfl, rfl, rfl⟩ := form
    exacts [⟨_, _, .read h1 h8⟩, ⟨_, _, .space hlo hhi h0⟩, ⟨_, _, .skip hlo hhi h0⟩, ⟨_, _, .stream follow hcount⟩]
  refine ⟨fun closed => req.refused hs hi (onCursor_closed closed), fun i on => ⟨fun hc => ?_, fun hc hx => ?_,
    fun hc hx => ?_⟩⟩
  · exact req.refused hs hi (onCursor_disabled (s := s.taking rest) on hc)
  · exact req.refused hs hi (onCursor_erasing (s := s.taking rest) on hc hx)
  · have enabled : s.spools[i].enabled = true := bne_iff_ne.2 hc
    exact ⟨fun p n f streaming => req.refused hs hi (onCursor_streaming (s := s.taking rest) enabled hx streaming),
      req.answered_lapped hs hi enabled hx⟩

end Sys2Proof.Machine
end

section
/-! LIST_SEGMENTS (R144, R145): the entry of each held segment, field by field. -/

namespace Sys2Proof.Machine

/-! ### The listed segments -/

/-- The entry of a segment, where it has a held record (R145). -/
def Spool.entryOf (sp : Spool) (openId : Option Nat) (n : Nat) : Option SegEntry :=
  let rs := sp.held.filter fun r => r.seg == n
  match rs.head?, rs.getLast? with
  | some a, some z => some (sp.segEntry openId a z rs)
  | _, _ => none

theorem Spool.segEntries_eq (sp : Spool) (openId : Option Nat) (start : Nat) :
    sp.segEntries openId start = (sp.segNumbers.filter fun n => start ≤ n).filterMap (sp.entryOf openId) := rfl

/-- The ends of a held segment, and its entry made from them (R145). -/
structure Spool.Listed (sp : Spool) (openId : Option Nat) (n : Nat) (oldest newest : Record) : Prop where
  head : (sp.held.filter fun r => r.seg = n).head? = some oldest
  last : (sp.held.filter fun r => r.seg = n).getLast? = some newest
  number : oldest.seg = n
  entry : sp.entryOf openId n = some (sp.segEntry openId oldest newest (sp.held.filter fun r => r.seg = n))

theorem Spool.listed_of_mem {sp : Spool} (openId : Option Nat) {n : Nat} (h : n ∈ sp.segNumbers) :
    ∃ oldest newest, sp.Listed openId n oldest newest := by
  obtain ⟨r, hr, seg⟩ : ∃ r ∈ sp.held, r.seg = n := by simpa [Spool.segNumbers] using h
  have ne : (sp.held.filter fun r => r.seg = n) ≠ [] := List.ne_nil_of_mem (List.mem_filter.2 ⟨hr, by simpa using seg⟩)
  have head := List.head?_eq_some_head ne
  have last := List.getLast?_eq_some_getLast ne
  refine ⟨_, _, head, last, ?_, ?_⟩
  · simpa using (List.mem_filter.1 (List.head_mem ne)).2
  · have same : (sp.held.filter fun r => r.seg == n) = sp.held.filter fun r => r.seg = n := rfl
    unfold Spool.entryOf
    dsimp only
    rw [same, head, last]

/-- There is one entry for each held segment from `start` on, in the order held (R144). -/
theorem Spool.segEntries_numbers (sp : Spool) (openId : Option Nat) (start : Nat) :
    (sp.segEntries openId start).map (·.number) = sp.segNumbers.filter fun n => start ≤ n := by
  have own : ∀ n ∈ sp.segNumbers.filter (fun n => decide (start ≤ n)),
      (sp.entryOf openId n).map (·.number) = some n := fun n hn => by
    obtain ⟨oldest, newest, listed⟩ := sp.listed_of_mem openId (List.mem_of_mem_filter hn)
    rw [listed.entry]
    exact congrArg some listed.number
  rw [segEntries_eq, List.map_filterMap, List.filterMap_congr own, List.filterMap_some]

theorem Spool.listed_of_entry {sp : Spool} {openId : Option Nat} {start : Nat} {e : SegEntry}
    (h : e ∈ sp.segEntries openId start) : ∃ n oldest newest, sp.Listed openId n oldest newest ∧
      e = sp.segEntry openId oldest newest (sp.held.filter fun r => r.seg = n) := by
  obtain ⟨n, hn, entry⟩ := List.mem_filterMap.1 (sp.segEntries_eq openId start ▸ h)
  obtain ⟨oldest, newest, listed⟩ := sp.listed_of_mem openId (List.mem_of_mem_filter hn)
  exact ⟨n, oldest, newest, listed, Option.some.inj (entry.symm.trans listed.entry)⟩

/-! ### The fields of an entry -/

/-- The burst id of a MARK (R5). -/
def RecordBody.markId : RecordBody → Option Nat
  | .mark _ _ id => id
  | _ => none

theorem RecordBody.markInfo_id (b : RecordBody) : b.markInfo.bind (·.2) = b.markId := by cases b <;> rfl

/-- The id of the burst open on a spool (R145). -/
def BurstPhase.idOn (p : BurstPhase) (i : SpoolNo) : Option Nat :=
  match p with
  | .isOpen b => if b.spool = i then some b.id else none
  | _ => none

theorem BurstPhase.idOn_eq (p : BurstPhase) (i : SpoolNo) :
    (p.open?.bind fun b => if b.spool = i then some b.id else none) = p.idOn i := by
  cases p <;> rfl

section Entry

variable (sp : Spool) (openId : Option Nat) (a z : Record) (rs : List Record)

theorem Spool.segEntry_state : (sp.segEntry openId a z rs).state =
    if sp.current = some a.seg then .current
    else if z.draft.body.markInfo.isSome then .closed else .unterminated := if_congr beq_iff_eq rfl rfl

theorem Spool.segEntry_current : (sp.segEntry openId a z rs).state = .current ↔ sp.current = some a.seg := by
  rw [segEntry_state]
  by_cases h : sp.current = some a.seg
  · simp [h]
  · cases z.draft.body.markInfo <;> simp [h]

theorem Spool.segEntry_closed : (sp.segEntry openId a z rs).state = .closed ↔
    sp.current ≠ some a.seg ∧ z.draft.body.markInfo ≠ none := by
  rw [segEntry_state]
  by_cases h : sp.current = some a.seg
  · simp [h]
  · cases z.draft.body.markInfo <;> simp [h]

theorem Spool.segEntry_markCount : (sp.segEntry openId a z rs).markCount =
    if sp.current = some a.seg then none else z.draft.body.markInfo.map (·.1) :=
  if_congr beq_iff_eq rfl rfl

theorem Spool.segEntry_burstId : (sp.segEntry openId a z rs).burstId =
    match rs.findSome? fun r => r.draft.body.burstOpenId with
    | some id => some id
    | none => if sp.current = some a.seg then openId else z.draft.body.markId := by
  have otherwise : (if (sp.current == some a.seg) = true then openId else z.draft.body.markInfo.bind (·.2))
      = if sp.current = some a.seg then openId else z.draft.body.markId :=
    if_congr beq_iff_eq rfl z.draft.body.markInfo_id
  unfold Spool.segEntry
  dsimp only
  rw [otherwise]
  cases rs.findSome? fun r => r.draft.body.burstOpenId <;> rfl

end Entry

/-- What a LIST_SEGMENTS of an enabled spool that is not ERASING answers (R144). -/
theorem listSegmentsRequest_ready {s : State} {i : SpoolNo} {start count : Nat} (hstart : start ≤ max32) (h1 : 1 ≤ count)
    (h8 : count ≤ 8) (hc : s.spools[i].enabled = true) (hx : s.spools[i].erasing = none) :
    listSegmentsRequest (Payload.listSegments i start count) s =
      (s, ⟨.ok, .segments false ((s.spools[i].segEntries (s.burst.phase.idOn i) start).take count)
        (decide (count < (s.spools[i].segEntries (s.burst.phase.idOn i) start).length))⟩) := by
  rw [listSegmentsRequest, decodeListSegments_payload i hstart h1 h8, withFields_some]
  dsimp only
  rw [Spool.ite_ready hc hx, BurstPhase.idOn_eq]

/-- Settles O33: one entry for each listed segment, each made from the segment's oldest and newest record. -/
theorem segmentsListed : Obligations.SegmentsListed := by
  intro s tag rest i start count hs hstart h1 h8 hi hc hx
  have numbers := s.spools[i].segEntries_numbers (s.burst.phase.idOn i) start
  refine ⟨_, _, congrArg Host.Outcome.next (awake_serve_unchanged hs hi rfl
    (listSegmentsRequest_ready (s := s.taking rest) hstart h1 h8 hc hx) nofun), ?_, ?_, fun e he => ?_⟩
  · rw [List.map_take]
    exact congrArg (List.take count) numbers
  · have length := congrArg List.length numbers
    rw [List.length_map] at length
    exact decide_eq_true_iff.trans (iff_of_eq (congrArg (count < ·) length))
  · obtain ⟨n, oldest, newest, listed, rfl⟩ := Spool.listed_of_entry (sp := s.spools[i]) (List.mem_of_mem_take he)
    obtain ⟨head, last, rfl, -⟩ := listed
    refine ⟨oldest, newest, head, last, rfl, rfl, rfl, rfl, List.contains_iff_mem, Spool.segEntry_current ..,
      Spool.segEntry_closed .., Spool.segEntry_markCount .., Spool.segEntry_burstId ..⟩

end Sys2Proof.Machine
end

section
/-! The link break (R157, R171 to R173, R204): what it does to a cursor, to a class, and as a whole. -/

namespace Sys2Proof.Machine

/-- A CLOSED or LAPPED cursor stays as it is (R157). -/
theorem Cursor.atBreak_shut {spools : Vector Spool 4} {c : Cursor} (h : c.place? = none) : c.atBreak spools = c := by
  unfold Cursor.place? at h
  unfold Cursor.atBreak
  cases hs : c.state with
  | closed | lapped => rfl
  | positioned | streaming => rw [hs] at h; exact nomatch h

/-- An open cursor is rewound, its stream ended (R157, R173). -/
theorem Cursor.atBreak_open {spools : Vector Spool 4} {c : Cursor} {i : SpoolNo} {p : Nat} (h : c.place? = some (i, p)) :
    c.atBreak spools = Cursor.rewind spools[i].holds i p c.inFlight := by
  unfold Cursor.place? at h
  unfold Cursor.atBreak
  cases hs : c.state <;> rw [hs] at h <;> cases h <;> rfl

/-- A class at a link break: its outstanding detail goes back to pending, or is discarded where it is disabled (R204). -/
theorem NoteClass.atBreak_eq (c : NoteClass) : c.atBreak =
    match c.outstanding with
    | none => c
    | some d => { c with
        pendingDetail := if c.enable then some (match c.pendingDetail with
          | some later => d.merge later
          | none => d) else c.pendingDetail,
        outstanding := none, timer := none, resendDue := false } := by
  unfold NoteClass.atBreak
  cases c.outstanding with
  | none => rfl
  | some d =>
    cases c.pendingDetail <;> cases c.enable <;> rfl

/-- The whole of a link break (R171, R172). -/
theorem linkBreak_frame {s : State} (h : s.link.breakTaken = false) : linkBreak s = { s with
    cursors := mapV (Cursor.atBreak s.spools) s.cursors,
    notes := { classes := mapV NoteClass.atBreak (raise linkFaultClass (.linkFault 0x10) s).notes.classes, credit := 0 },
    link := { s.link with
      rx := .low, breakTaken := true, intake := [], outstanding := [], replyQueue := [], refusalSlots := 0,
      path := none, counters := s.link.counters.set breaks (min (s.link.counters[breaks] + 1) 65535) } } := by
  rw [linkBreak, h]
  rfl

/-- Settles O49: one break to a low period; each cursor, each class and the link as the rules of the break say. -/
theorem linkBreakCarriedOut : Obligations.LinkBreakCarriedOut := by
  intro s hs
  refine ⟨fun taken => ?_, fun first => ?_⟩
  · refine congrArg Host.Outcome.next ((awake_running hs).trans ?_)
    rw [linkBreak, if_pos taken]
  · refine ⟨_, congrArg Host.Outcome.next ((awake_running hs).trans (linkBreak_frame first)), fun c => ?_, fun n => ?_, rfl⟩
    · have rewound := mapV_get (Cursor.atBreak s.spools) s.cursors c
      refine ⟨fun shut => rewound.trans (Cursor.atBreak_shut shut), fun i p opened => ?_⟩
      rw [Cursor.atBreak_open opened] at rewound
      refine ⟨fun unmarked => ?_, fun m marked => ⟨fun held => ?_, fun left => ?_⟩⟩
      · rw [unmarked] at rewound
        exact rewound
      · rw [marked, Cursor.rewind, if_pos (Spool.holds_iff_mem.2 held)] at rewound
        exact rewound
      · rw [marked, Cursor.rewind, if_neg (mt Spool.holds_iff_mem.1 left)] at rewound
        exact rewound
    · have raised := (raise_class linkFaultClass n (.linkFault 0x10) s).trans (if_congr eq_comm rfl rfl)
      exact (mapV_get _ _ n).trans ((congrArg NoteClass.atBreak raised).trans (NoteClass.atBreak_eq _))

end Sys2Proof.Machine
end

section
/-! The arbiter's choice of a stream (R150 to R152, R169): the cursor it serves, and the frame it builds. -/

namespace Sys2Proof.Machine

/-! ### The choice -/

/-- The first eligible cursor after the last served is chosen (R169). -/
theorem chooseStream_first {s : State} {k : Fin 4} (here : eligible s (s.link.lastServed + 1 + k) = true)
    (before : ∀ j < k, eligible s (s.link.lastServed + 1 + j) = false) :
    chooseStream s = some (s.link.lastServed + 1 + k) := by
  have found : (List.finRange 4).find? (eligible s ∘ fun k => s.link.lastServed + 1 + k) = some k := by
    rw [← Fin.find?_eq_find?_finRange, Fin.find?_eq_some_iff]
    exact ⟨here, before⟩
  rw [chooseStream, roundRobin, List.find?_map, found]
  rfl

/-- Without credit or without a class that has one to send, no notification is chosen (R169, R197). -/
theorem noteToSend_none {s : State} (h : s.notes.credit = 0 ∨ ∀ n : ClassNo, s.notes.classes[n].sendable = false) :
    noteToSend s = none := by
  unfold noteToSend
  obtain credit | silent := h
  · exact if_pos credit
  · split
    · rfl
    · exact List.foldl_fixed' (fun n => by rw [silent n]; rfl) _

/-- With nothing else to send, the chosen stream is served (R169 case 3). -/
theorem arbiterChoice_stream {s : State} {c : CursorNo} (free : s.link.path = none) (empty : s.link.replyQueue = [])
    (silent : noteToSend s = none) (chosen : chooseStream s = some c) : arbiterChoice s = sendStream c s := by
  rw [arbiterChoice, free]
  dsimp only
  rw [empty]
  dsimp only
  rw [silent]
  dsimp only
  rw [chosen]

/-! ### The frame -/

/-- The most records a frame of a stream carries (R151). -/
theorem frameLimit_eq (remaining : Option Nat) :
    min Config.recordsPerFrame (remaining.getD Config.recordsPerFrame) =
      match remaining with
      | some r => min 6 r
      | none => 6 := by
  cases remaining <;> rfl

/-- The count runs out where it was the number of records sent (R152). -/
theorem remaining_zero_iff {remaining : Option Nat} {n : Nat} (h : ∀ r, remaining = some r → n ≤ r) :
    remaining.map (· - n) = some 0 ↔ remaining = some n := by
  cases remaining with
  | none => simp
  | some r =>
    have := h r rfl
    simp only [Option.map_some, Option.some.injEq]
    omega

/-- Why a stream ends that stands at place `idx` after a frame of `n` records (R152). -/
def Spool.streamEnd (sp : Spool) (remaining : Option Nat) (follow : Bool) (idx n : Nat) : Option StreamEnd :=
  if remaining = some n then some .count
  else if idx = sp.held.length ∧ follow = false then some .atEnd else none

section Stream

variable {s : State} {c : CursorNo} {i : SpoolNo} {idx : Nat} {remaining : Option Nat} {follow : Bool}

/-- A stream is eligible at a held record, and at END without follow (R150). -/
theorem eligible_streaming (cons : s.spools[i].consecutive) (hidx : idx ≤ s.spools[i].held.length)
    (hf : idx = s.spools[i].held.length → follow = false)
    (h : s.cursors[c].state = .streaming i (s.spools[i].positionAt idx) remaining follow) : eligible s c = true := by
  rw [eligible, h]
  dsimp only
  obtain atEnd | held := Nat.eq_or_lt_of_le hidx
  · rw [(Spool.positionAt_eq_nextSeq cons hidx).2 atEnd, hf atEnd]
    simp
  · rw [Spool.holds_iff.2 ⟨_, List.getElem_mem held, (Spool.positionAt_of_lt held).symm⟩, Bool.true_or]

/-- The frame and the cursor of a stream that stands at place `idx` and sends `records` (R151, R152). -/
theorem buildFrame_streaming {records : List Record} (cons : s.spools[i].consecutive)
    (hidx : idx ≤ s.spools[i].held.length)
    (h : s.cursors[c].state = .streaming i (s.spools[i].positionAt idx) remaining follow)
    (hr : records = (s.spools[i].held.drop idx).take
      (min Config.recordsPerFrame (remaining.getD Config.recordsPerFrame))) :
    buildFrame c s =
      let next := idx + records.length
      let ended := s.spools[i].streamEnd remaining follow next records.length
      some (.data c ended records,
        { state := if ended.isSome then .positioned i (s.spools[i].positionAt next)
            else .streaming i (s.spools[i].positionAt next) (remaining.map (· - records.length)) follow,
          inFlight := (records.head?.map (·.seq)) <|> s.cursors[c].inFlight }) := by
  have sent : records.length ≤ s.spools[i].held.length - idx := by
    rw [hr, List.length_take, List.length_drop]
    exact Nat.min_le_right _ _
  have allowed : ∀ r, remaining = some r → records.length ≤ r := fun r e => by
    rw [hr, e, List.length_take]
    exact (Nat.min_le_left _ _).trans (Nat.min_le_right _ _)
  rw [buildFrame, h]
  dsimp only
  rw [Spool.indexOf_positionAt cons hidx, ← hr]
  simp only [remaining_zero_iff allowed, Spool.positionAt_eq_nextSeq cons (idx := idx + records.length) (by omega)]
  rfl

/-- The frame of a stream joins the path, and the cursor and the last served are its own (R169 case 3). -/
theorem sendStream_eq {f : Frame} {cu : Cursor} (h : buildFrame c s = some (f, cu)) : sendStream c s = { s with
    cursors := s.cursors.set c cu,
    link := { s.link with lastServed := c, path := some { frame := f, left := f.size * 10 * 1000000 } } } := by
  rw [sendStream, h]
  rfl

end Stream

/-- Settles O51: the first eligible cursor is chosen, and its frame holds the next records and the end they bring. -/
theorem arbiterSendsStream : Obligations.ArbiterSendsStream := by
  intro s k i idx remaining follow hs free empty silent c before cons hidx _ hf streaming
  have stands : s.cursors[c].state = .streaming i (s.spools[i].positionAt idx) remaining follow := by
    rw [Spool.positionAt_eq cons hidx]
    exact streaming
  intro records n pos ended frame
  have limit : records = (s.spools[i].held.drop idx).take
      (min Config.recordsPerFrame (remaining.getD Config.recordsPerFrame)) :=
    congrArg (fun most => (s.spools[i].held.drop idx).take most) (frameLimit_eq remaining).symm
  have sent : idx + n ≤ s.spools[i].held.length := by
    have : n ≤ (s.spools[i].held.drop idx).length := List.length_take_le' ..
    rw [List.length_drop] at this
    omega
  have built := buildFrame_streaming cons hidx stands limit
  have chosen := chooseStream_first (eligible_streaming cons hidx hf stands) before
  have state : (if (s.spools[i].streamEnd remaining follow (idx + n) n).isSome then
        CursorState.positioned i (s.spools[i].positionAt (idx + n))
      else .streaming i (s.spools[i].positionAt (idx + n)) (remaining.map (· - n)) follow) =
      if ended = none then .streaming i pos (remaining.map (· - n)) follow else .positioned i pos := by
    rw [Spool.positionAt_eq cons sent]
    show (if ended.isSome then _ else _) = _
    cases ended <;> rfl
  have mark : ((records.head?.map (·.seq)) <|> s.cursors[c].inFlight) =
      match records.head? with
      | some r => some r.seq
      | none => s.cursors[c].inFlight := by
    cases records.head? <;> rfl
  have sends := (arbiterChoice_stream free empty (noteToSend_none silent) chosen).trans (sendStream_eq built)
  dsimp only at sends
  rw [show records.length = n from rfl, state, mark] at sends
  exact congrArg Host.Outcome.next ((awake_running hs).trans sends)

end Sys2Proof.Machine
end

section
/-! The law of the link controller as a law of the link alone (R164, R167, R177 to R179), and what each of the link's
own operations does to it. -/

namespace Sys2Proof.Machine

/-! ### Entries by their stage -/

/-- The tags of the outstanding requests at a stage, in their order. -/
def tagsAt (st : Stage) (es : List Entry) : List Byte := (es.filter fun e => e.stage == st).map (·.tag)

@[simp] theorem tagsAt_append (st : Stage) (a b : List Entry) : tagsAt st (a ++ b) = tagsAt st a ++ tagsAt st b := by
  simp [tagsAt]

@[simp] theorem tagsAt_cons (st : Stage) (e : Entry) (es : List Entry) :
    tagsAt st (e :: es) = if e.stage = st then e.tag :: tagsAt st es else tagsAt st es := by
  unfold tagsAt
  by_cases h : e.stage = st <;> simp [h]

theorem mem_tagsAt {st : Stage} {es : List Entry} {tag : Byte} :
    tag ∈ tagsAt st es ↔ ∃ e ∈ es, e.stage = st ∧ e.tag = tag := by
  simp [tagsAt, and_assoc]

theorem tagsAt_sublist (st : Stage) {es es' : List Entry} (h : es.Sublist es') :
    (tagsAt st es).Sublist (tagsAt st es') := (h.filter _).map _

theorem tagsAt_eq_nil {st : Stage} {es : List Entry} (h : ∀ e ∈ es, e.stage ≠ st) : tagsAt st es = [] :=
  List.eq_nil_iff_forall_not_mem.2 fun _ hm => by
    obtain ⟨e, he, hst, -⟩ := mem_tagsAt.1 hm
    exact h e he hst

section Split

variable {a b : List Entry} {e : Entry}

/-- Under distinct tags no other entry has the tag of one. -/
theorem tag_ne_of_split (h : ((a ++ e :: b).map (·.tag)).Nodup) : ∀ e' ∈ a ++ b, e'.tag ≠ e.tag := by
  intro e' he' same
  rw [List.map_append, List.map_cons, List.nodup_middle, List.nodup_cons, ← List.map_append] at h
  exact h.1 (List.mem_map.2 ⟨e', he', same⟩)

/-- Under distinct tags a stage change is one of a single entry. -/
theorem setStage_split (h : ((a ++ e :: b).map (·.tag)).Nodup) (st : Stage) :
    setStage e.tag st (a ++ e :: b) = a ++ { e with stage := st } :: b := by
  have others : ∀ es : List Entry, (∀ e' ∈ es, e'.tag ≠ e.tag) → setStage e.tag st es = es := fun es hes =>
    (List.map_congr_left fun e' he' => if_neg (hes e' he')).trans (List.map_id es)
  have distinct := tag_ne_of_split h
  unfold setStage at others ⊢
  rw [List.map_append, List.map_cons, others a fun e' he' => distinct e' (List.mem_append_left _ he'),
    others b fun e' he' => distinct e' (List.mem_append_right _ he'), if_pos rfl]

/-- Under distinct tags the entry of a tag alone leaves with it. -/
theorem filter_tag_split (h : ((a ++ e :: b).map (·.tag)).Nodup) :
    ((a ++ e :: b).filter fun e' => e'.tag != e.tag) = a ++ b := by
  have distinct := tag_ne_of_split h
  rw [List.filter_append, List.filter_cons_of_neg (by simp), ← List.filter_append]
  exact List.filter_eq_self.2 fun e' he' => bne_iff_ne.2 (distinct e' he')

end Split

/-! ### The law -/

namespace Link

/-- No counter is past 65535 (R167). -/
def CountersFit (l : Link) : Prop := ∀ k : CounterNo, l.counters[k] ≤ max16

/-- The gap timer, while it runs, is no further past its length than a character takes (R164, log entry 8). -/
def GapFits (l : Link) : Prop := ∀ g, l.rx.gap = some g → g ≤ Config.gapLength + l.speed.characterTime

/-- The link controller's law but for the erase states of the spools. -/
structure Lawful (l : Link) : Prop where
  places : l.outstanding.length ≤ Config.outstandingPlaces
  tags : l.tags.Nodup
  queued : l.intake.map (·.tag) = tagsAt .queued l.outstanding
  replying : (l.frames.filterMap Frame.freesTag).Perm (tagsAt .replying l.outstanding)
  slots : l.refusalSlots = (l.frames.filter Frame.isRefusal).length
  slotBound : l.refusalSlots ≤ Config.refusalSlots
  erases : ∀ i : SpoolNo, (tagsAt (.erasing i) l.outstanding).length ≤ 1
  counters : l.CountersFit
  gap : l.GapFits

/-- The links agree in all that the law ties together, and counters and gap timer of the second are in their bounds
where those of the first are. -/
structure Alike (l l' : Link) : Prop where
  intake : l'.intake = l.intake
  outstanding : l'.outstanding = l.outstanding
  refusalSlots : l'.refusalSlots = l.refusalSlots
  freed : l'.frames.filterMap Frame.freesTag = l.frames.filterMap Frame.freesTag
  refusals : l'.frames.filter Frame.isRefusal = l.frames.filter Frame.isRefusal
  counters : l.CountersFit → l'.CountersFit
  gap : l.GapFits → l'.GapFits

theorem Lawful.alike {l l' : Link} (h : l.Lawful) (k : l.Alike l') : l'.Lawful where
  places := k.outstanding ▸ h.places
  tags := by rw [Link.tags, k.outstanding]; exact h.tags
  queued := by rw [k.intake, k.outstanding]; exact h.queued
  replying := by rw [k.freed, k.outstanding]; exact h.replying
  slots := by rw [k.refusalSlots, k.refusals]; exact h.slots
  slotBound := k.refusalSlots ▸ h.slotBound
  erases := k.outstanding ▸ h.erases
  counters := k.counters h.counters
  gap := k.gap h.gap

namespace Alike

variable {l l' l'' : Link}

theorem refl (l : Link) : l.Alike l := ⟨rfl, rfl, rfl, rfl, rfl, id, id⟩

theorem trans (h : l.Alike l') (k : l'.Alike l'') : l.Alike l'' :=
  ⟨k.intake.trans h.intake, k.outstanding.trans h.outstanding, k.refusalSlots.trans h.refusalSlots,
    k.freed.trans h.freed, k.refusals.trans h.refusals, k.counters ∘ h.counters, k.gap ∘ h.gap⟩

theorem withOutstanding (h : l.Alike l') (es : List Entry) :
    Alike { l with outstanding := es } { l' with outstanding := es } :=
  ⟨h.intake, rfl, h.refusalSlots, h.freed, h.refusals, h.counters, h.gap⟩

/-- Links alike are alike after the same answer. -/
theorem answered (h : l.Alike l') (tag : Byte) (rest : List Request) (fs : List Frame) :
    (l.answered tag rest fs).Alike (l'.answered tag rest fs) where
  intake := rfl
  outstanding := congrArg (setStage tag .replying) h.outstanding
  refusalSlots := h.refusalSlots
  freed := by
    simp only [Link.answered, Link.frames, ← List.append_assoc, List.filterMap_append]
    exact congrArg (· ++ _) ((List.filterMap_append ..).symm.trans (h.freed.trans (List.filterMap_append ..)))
  refusals := by
    simp only [Link.answered, Link.frames, ← List.append_assoc, List.filter_append]
    exact congrArg (· ++ _) ((List.filter_append ..).symm.trans (h.refusals.trans (List.filter_append ..)))
  counters := h.counters
  gap := h.gap

/-- Frames that free no tag and hold no slot join the reply queue. -/
theorem pushed (l : Link) {fs : List Frame} (h : ∀ f ∈ fs, f.freesTag = none ∧ f.isRefusal = false) :
    l.Alike { l with replyQueue := l.replyQueue ++ fs } where
  intake := rfl
  outstanding := rfl
  refusalSlots := rfl
  freed := by
    have none : fs.filterMap Frame.freesTag = [] := List.filterMap_eq_nil_iff.2 fun f hf => (h f hf).1
    simp [Link.frames, none]
  refusals := by
    have none : fs.filter Frame.isRefusal = [] := List.filter_eq_nil_iff.2 fun f hf => by simp [(h f hf).2]
    simp [Link.frames, none]
  counters := id
  gap := id

/-- The receiver takes a state in which the gap timer is in its bound. -/
theorem received (l : Link) {rx : Receiver} {taken : Bool} (h : l.GapFits → GapFits { l with rx }) :
    l.Alike { l with rx, breakTaken := taken } :=
  ⟨rfl, rfl, rfl, rfl, rfl, id, h⟩

/-- A fault is counted (R167). -/
theorem counted (l : Link) (k : CounterNo) :
    l.Alike { l with counters := l.counters.set k (satAdd max16 l.counters[k] 1) } where
  intake := rfl
  outstanding := rfl
  refusalSlots := rfl
  freed := rfl
  refusals := rfl
  counters h j := by
    rw [Vector_set_get]
    split
    exacts [satAdd_le _ _ _, h j]
  gap := id

/-- The oldest frame of the reply queue goes to the path (R169). -/
theorem sent {f : Frame} {rest : List Frame} (free : l.path = none) (queue : l.replyQueue = f :: rest) (left : Nat) :
    l.Alike { l with replyQueue := rest, path := some ⟨f, left⟩ } := by
  have frames : Link.frames { l with replyQueue := rest, path := some ⟨f, left⟩ } = l.frames := by
    simp [Link.frames, free, queue]
  exact ⟨rfl, rfl, rfl, by rw [frames], by rw [frames], id, id⟩

/-- A frame made by the arbiter, which frees no tag and holds no slot, goes to the path (R169). -/
theorem begun {f : Frame} (free : l.path = none) (hf : f.freesTag = none ∧ f.isRefusal = false) (left : Nat)
    (served : CursorNo) : l.Alike { l with path := some ⟨f, left⟩, lastServed := served } where
  intake := rfl
  outstanding := rfl
  refusalSlots := rfl
  freed := by simp [Link.frames, free, hf.1]
  refusals := by simp [Link.frames, free, hf.2]
  counters := id
  gap := id

/-- A frame that frees no tag and holds no slot has been sent (R170). -/
theorem completed {t : Transmission} (busy : l.path = some t)
    (hf : t.frame.freesTag = none ∧ t.frame.isRefusal = false) : l.Alike { l with path := none } where
  intake := rfl
  outstanding := rfl
  refusalSlots := rfl
  freed := by simp [Link.frames, busy, hf.1]
  refusals := by simp [Link.frames, busy, hf.2]
  counters := id
  gap := id

end Alike

/-! ### Requests -/

section Requests

variable {l : Link} {rest : List Request}

/-- The oldest request of the intake is the first outstanding one that is queued (R177, R181). -/
theorem Lawful.oldest (h : l.Lawful) {r : Request} (hi : l.intake = r :: rest) :
    ∃ a e b, l.outstanding = a ++ e :: b ∧ e.tag = r.tag ∧ e.stage = .queued ∧
      rest.map (·.tag) = tagsAt .queued (a ++ b) := by
  have queued := h.queued
  rw [hi, List.map_cons, tagsAt, eq_comm, List.map_eq_cons_iff] at queued
  obtain ⟨e, es, first, tag, others⟩ := queued
  obtain ⟨a, b, split, before, here, after⟩ := List.filter_eq_cons_iff.1 first
  refine ⟨a, e, b, split, tag, eq_of_beq here, ?_⟩
  rw [tagsAt_append, tagsAt_eq_nil fun e' he' hq => before e' he' (by simp [hq]), List.nil_append, ← others, ← after]
  rfl

/-- An outstanding request not yet replying is answered, in one last reply frame (R177, R181). -/
theorem Lawful.answered {a b : List Entry} {e : Entry} {fs : List Frame} (h : l.Lawful)
    (split : l.outstanding = a ++ e :: b) (waiting : e.stage ≠ .replying)
    (queued : rest.map (·.tag) = tagsAt .queued (a ++ b)) (freed : fs.filterMap Frame.freesTag = [e.tag])
    (refusals : fs.filter Frame.isRefusal = []) : (l.answered e.tag rest fs).Lawful := by
  have distinct : ((a ++ e :: b).map (·.tag)).Nodup := split ▸ h.tags
  have outstanding : (l.answered e.tag rest fs).outstanding = a ++ { e with stage := .replying } :: b := by
    rw [← setStage_split distinct, ← split]
    rfl
  have frames : (l.answered e.tag rest fs).frames = l.frames ++ fs := (List.append_assoc ..).symm
  exact {
    places := by
      have := h.places
      rw [outstanding]
      rw [split] at this
      simpa using this
    tags := by
      rw [Link.tags, outstanding]
      simpa using distinct
    queued := by
      rw [outstanding]
      exact queued.trans (by simp)
    replying := by
      have := h.replying
      rw [split] at this
      rw [outstanding, frames, List.filterMap_append, freed]
      simp only [tagsAt_append, tagsAt_cons, waiting, if_false, if_true] at this ⊢
      exact (this.append_right _).trans ((List.perm_append_singleton _ _).trans List.perm_middle.symm)
    slots := by
      rw [frames, List.filter_append, refusals, List.append_nil]
      exact h.slots
    slotBound := h.slotBound
    erases := fun i => by
      have fewer := tagsAt_sublist (.erasing i) ((List.sublist_cons_self e b).append_left a)
      rw [← split] at fewer
      rw [outstanding]
      simpa using fewer.length_le.trans (h.erases i)
    counters := h.counters
    gap := h.gap }

/-- The oldest request starts an erase of a spool that no other outstanding one is erasing (R39, R177). -/
theorem Lawful.erasing {a b : List Entry} {e : Entry} {i : SpoolNo} (h : l.Lawful)
    (split : l.outstanding = a ++ e :: b) (waiting : e.stage = .queued)
    (queued : rest.map (·.tag) = tagsAt .queued (a ++ b)) (first : ∀ e' ∈ l.outstanding, e'.stage ≠ .erasing i) :
    Lawful { l with intake := rest, outstanding := setStage e.tag (.erasing i) l.outstanding } := by
  have distinct : ((a ++ e :: b).map (·.tag)).Nodup := split ▸ h.tags
  have outstanding : setStage e.tag (.erasing i) l.outstanding = a ++ { e with stage := .erasing i } :: b := by
    rw [split, setStage_split distinct]
  exact {
    places := by
      have := h.places
      rw [outstanding]
      rw [split] at this
      simpa using this
    tags := by
      rw [Link.tags, outstanding]
      simpa using distinct
    queued := by
      rw [outstanding]
      simpa using queued
    replying := by
      have := h.replying
      rw [split] at this
      rw [outstanding]
      exact this.trans (.of_eq (by simp [waiting]))
    slots := h.slots
    slotBound := h.slotBound
    erases := fun j => by
      have few := h.erases j
      have none := tagsAt_eq_nil first
      rw [split] at few none
      rw [outstanding]
      by_cases hij : i = j
      · subst hij
        simp_all
      · simpa [waiting, hij] using few
    counters := h.counters
    gap := h.gap }

/-- A request joins the intake and the outstanding set, under a tag of its own (R178). -/
theorem Lawful.accepted (h : l.Lawful) {tag : Byte} {payload : List Byte}
    (place : l.outstanding.length < Config.outstandingPlaces) (new : tag ∉ l.tags) :
    Lawful { l with
      intake := l.intake ++ [⟨tag, payload⟩], outstanding := l.outstanding ++ [⟨tag, payload.head?, .queued⟩] } where
  places := by simpa using place
  tags := by
    simp only [Link.tags, List.map_append, List.map_cons, List.map_nil]
    exact List.nodup_append_comm.1 (List.nodup_cons.2 ⟨new, h.tags⟩)
  queued := by simp [h.queued, tagsAt]
  replying := h.replying.trans (.of_eq (by simp [tagsAt]))
  slots := h.slots
  slotBound := h.slotBound
  erases i := by simpa [tagsAt] using h.erases i
  counters := h.counters
  gap := h.gap

/-- A refusal takes a slot and joins the reply queue (R179). -/
theorem Lawful.refused (h : l.Lawful) (tag : Byte) (code : Option Byte) (st : Status)
    (slot : l.refusalSlots < Config.refusalSlots) :
    Lawful { l with
      refusalSlots := l.refusalSlots + 1, replyQueue := l.replyQueue ++ [.refusal tag code st] } where
  places := h.places
  tags := h.tags
  queued := h.queued
  replying := by
    have := h.replying
    simp only [Link.frames, List.filterMap_append] at this ⊢
    exact (List.append_nil _).symm ▸ this
  slots := by
    have := h.slots
    simp only [Link.frames, List.filter_append, List.length_append] at this ⊢
    rw [this]
    rfl
  slotBound := slot
  erases := h.erases
  counters := h.counters
  gap := h.gap

end Requests

/-! ### Transmissions and the end of a link -/

section Transmissions

variable {l : Link} {t : Transmission}

/-- A last reply frame has been sent: its request is no longer outstanding (R170). -/
theorem Lawful.replied {tag : Byte} {code : Option Byte} {r : Reply} (h : l.Lawful) (busy : l.path = some t)
    (frame : t.frame = .reply tag code r true) :
    Lawful { l with path := none, outstanding := l.outstanding.filter fun e => e.tag != tag } := by
  have frames : l.frames = .reply tag code r true :: l.replyQueue := by simp [Link.frames, busy, frame]
  have freed : l.frames.filterMap Frame.freesTag = tag :: l.replyQueue.filterMap Frame.freesTag := by
    rw [frames]
    rfl
  have replying := freed ▸ h.replying
  obtain ⟨e, he, stage, rfl⟩ := mem_tagsAt.1 (replying.subset (List.mem_cons_self ..))
  obtain ⟨a, b, split⟩ := List.append_of_mem he
  have distinct : ((a ++ e :: b).map (·.tag)).Nodup := split ▸ h.tags
  have outstanding : (l.outstanding.filter fun e' => e'.tag != e.tag) = a ++ b := by
    rw [split, filter_tag_split distinct]
  have remain : ∀ st, st ≠ .replying → tagsAt st (a ++ b) = tagsAt st l.outstanding := fun st hst => by
    rw [split]
    simp [stage, hst.symm]
  exact {
    places := (List.length_filter_le _ _).trans h.places
    tags := h.tags.sublist (List.filter_sublist.map _)
    queued := by
      rw [outstanding, remain _ (by simp)]
      exact h.queued
    replying := by
      rw [split] at replying
      rw [outstanding]
      simp only [tagsAt_append, tagsAt_cons, stage, if_true] at replying ⊢
      exact (replying.trans List.perm_middle).cons_inv
    slots := by
      have := h.slots
      rw [frames] at this
      exact this
    slotBound := h.slotBound
    erases := fun i => by
      rw [outstanding, remain _ (by simp)]
      exact h.erases i
    counters := h.counters
    gap := h.gap }

/-- A refusal has been sent: its slot is free (R170). -/
theorem Lawful.refusalSent {tag : Byte} {code : Option Byte} {st : Status} (h : l.Lawful) (busy : l.path = some t)
    (frame : t.frame = .refusal tag code st) :
    Lawful { l with path := none, refusalSlots := l.refusalSlots - 1 } := by
  have frames : l.frames = .refusal tag code st :: l.replyQueue := by simp [Link.frames, busy, frame]
  exact {
    places := h.places
    tags := h.tags
    queued := h.queued
    replying := by
      have := h.replying
      rw [frames] at this
      exact this
    slots := by
      have := h.slots
      rw [frames, List.filter_cons_of_pos rfl, List.length_cons] at this
      exact this ▸ rfl
    slotBound := (Nat.sub_le _ _).trans h.slotBound
    erases := h.erases
    counters := h.counters
    gap := h.gap }

/-- A link with nothing outstanding and nothing to send is lawful. -/
theorem Lawful.of_empty (intake : l.intake = []) (outstanding : l.outstanding = []) (queue : l.replyQueue = [])
    (slots : l.refusalSlots = 0) (path : l.path = none) (counters : l.CountersFit) (gap : l.GapFits) : l.Lawful where
  places := by simp [outstanding]
  tags := by simp [Link.tags, outstanding]
  queued := by simp [intake, outstanding, tagsAt]
  replying := by simp [Link.frames, queue, path, outstanding, tagsAt]
  slots := by simp [Link.frames, queue, path, slots]
  slotBound := by simp [slots]
  erases i := by simp [outstanding, tagsAt]
  counters := counters
  gap := gap

end Transmissions

end Link

end Sys2Proof.Machine
end

section
/-! The events of the recording blocks, which leave the link's requests and refusals alone and end no erase. -/

namespace Sys2Proof.Machine

/-- From `s0` to `s` nothing happened that the link controller's law speaks of, and no erase ended. -/
def LinkQuiet (s0 s : State) : Prop :=
  s0.link.Alike s.link ∧ ∀ i : SpoolNo, s0.spools[i].erasing.isSome = true → s.spools[i].erasing.isSome = true

variable {s0 s t : State}

theorem LinkQuiet.refl (s : State) : LinkQuiet s s := ⟨.refl _, fun _ => id⟩

theorem LinkQuiet.trans (h : LinkQuiet s0 s) (k : LinkQuiet s t) : LinkQuiet s0 t :=
  ⟨h.1.trans k.1, fun i e => k.2 i (h.2 i e)⟩

namespace LinkQuiet

theorem setSpool {i : SpoolNo} {sp : Spool} (h : LinkQuiet s0 s) (k : sp.erasing = s.spools[i].erasing) :
    LinkQuiet s0 (s.setSpool i sp) := ⟨h.1, fun j e => by
  rw [setSpool_spool]
  split
  · next hij =>
    subst hij
    rw [k]
    exact h.2 i e
  · exact h.2 j e⟩

theorem ite {c : Prop} [Decidable c] (h : LinkQuiet s0 s) (k : LinkQuiet s0 t) : LinkQuiet s0 (if c then s else t) := by
  split
  exacts [h, k]

/-! ### Appends, direct placements and the end of an event -/

theorem append (i : SpoolNo) (d : Draft) (h : LinkQuiet s0 s) : LinkQuiet s0 (append i d s).1 := by
  obtain ⟨-, -, -, -, erasing, -⟩ := s.spools[i].append_keeps s.time d
  have placed := h.setSpool erasing
  unfold Machine.append
  dsimp only
  split <;> exact placed

theorem appendTo (i : SpoolNo) (d : Draft) (h : LinkQuiet s0 s) : LinkQuiet s0 (appendTo i d s) := h.append i d

theorem appendToAll (d : Draft) (h : LinkQuiet s0 s) : LinkQuiet s0 (appendToAll d s) :=
  List.foldlRecOn _ _ h fun _ k i _ => (k.appendTo i d).ite k

theorem placeDirect (i : SpoolNo) (d : Draft) (h : LinkQuiet s0 s) : LinkQuiet s0 (placeDirect i d s) :=
  h.setSpool (sp := (s.spools[i].makeRoom 1).place d) rfl

theorem setAside (i : SpoolNo) (h : LinkQuiet s0 s) : LinkQuiet s0 (setAside i s) :=
  h.setSpool (sp := { s.spools[i].makeRoom 1 with reservation := true }) rfl

/-- The STREAM_END frames that an event's end adds free no tag and hold no slot (R153). -/
theorem closeEvent (s1 : State) (h : LinkQuiet s0 s) : LinkQuiet s0 (closeEvent s1 s) := by
  have ends : ∀ f ∈ lappedEnds s1 s, f.freesTag = none ∧ f.isRefusal = false := fun f hf => by
    obtain ⟨c, -, hc⟩ := List.mem_filterMap.1 hf
    obtain ⟨reason, -, rfl⟩ := Option.map_eq_some_iff.1 hc
    exact ⟨rfl, rfl⟩
  refine h.trans ⟨?_, fun i e => ?_⟩
  · rw [closeEvent_frame rfl]
    exact .pushed _ ends
  · rw [closeEvent_spool, Spool.atEventEnd_erasing]
    exact e

theorem recording {f : State → State} (h : LinkQuiet s0 (f s)) : LinkQuiet s0 (recording f s) := h.closeEvent s

/-! ### Bursts -/

theorem openingRun (i : SpoolNo) (burstOpen trip : Draft) (lookback : List Draft) (h : LinkQuiet s0 s) :
    LinkQuiet s0 (openingRun i burstOpen trip lookback s).1 := by
  have closed : LinkQuiet s0 (closeForOpening i s) := ((h.setAside i).placeDirect i _).ite (h.setAside i)
  have opened := (closed.setSpool (i := i) (sp := { (closeForOpening i s).spools[i] with burstSeg := true })
    rfl).placeDirect i burstOpen
  have before : LinkQuiet s0 (beforeTrip i burstOpen s) := by
    unfold beforeTrip
    split
    exacts [(opened.placeDirect i _).setSpool rfl, opened]
  exact List.foldlRecOn _ _ (before.append i trip) fun _ k d _ => k.appendTo i d

theorem tryOpen (tr : Trip) (h : LinkQuiet s0 s) : LinkQuiet s0 (tryOpen tr s).1 := by
  unfold Machine.tryOpen
  dsimp only
  split
  exacts [h.openingRun _ _ _ _, h.append _ _]

theorem burstTrip (tr : Trip) (h : LinkQuiet s0 s) : LinkQuiet s0 (burstTrip tr s).1 := by
  have phased : ∀ p, LinkQuiet s0 (s.setPhase p) := fun _ => h
  unfold Machine.burstTrip
  split
  · exact h.tryOpen tr
  · exact (phased _).append _ _
  · split
    exacts [(phased _).tryOpen tr, h.append _ _]

theorem closeBurst (reason : MarkReason) (askPin : Bool) (b : OpenBurst) (h : LinkQuiet s0 s) :
    LinkQuiet s0 (closeBurst reason askPin b s) := by
  refine h.setSpool (i := b.spool) ?_
  split
  · unfold Spool.pinForBurst
    split <;> rfl
  · rfl

theorem endBurstEarly (reason : MarkReason) (h : LinkQuiet s0 s) : LinkQuiet s0 (endBurstEarly reason s) := by
  unfold Machine.endBurstEarly
  dsimp only
  split
  exacts [h.closeBurst reason false _, h]

theorem abandonBurst (h : LinkQuiet s0 s) : LinkQuiet s0 (abandonBurst s) := by
  unfold Machine.abandonBurst
  dsimp only
  split
  exacts [h.setSpool (sp := Spool.abandonBurst _) rfl, h]

theorem deadline (h : LinkQuiet s0 s) : LinkQuiet s0 (deadline s) := by
  unfold Machine.deadline
  split
  · split
    exacts [h.closeBurst _ _ _, h]
  · exact h

theorem cooldownEnd (h : LinkQuiet s0 s) : LinkQuiet s0 (cooldownEnd s) := by
  have shut : LinkQuiet s0 (s.setPhase .idle) := h
  unfold Machine.cooldownEnd
  split
  exacts [shut.ite h, h]

/-- The start of an erase ends none (R40). -/
theorem startErase (i : SpoolNo) (h : LinkQuiet s0 s) : LinkQuiet s0 (startErase i s) :=
  h.trans ⟨by rw [startErase_frame]; exact .refl _, fun j e => by
    rw [startErase_spool]
    split
    · split <;> rfl
    · exact e⟩

/-! ### Groups and lines -/

theorem tripGroup (g : GroupNo) (c : Change) (h : LinkQuiet s0 s) : LinkQuiet s0 (tripGroup g c s) := by
  have counted : ∀ gr, LinkQuiet s0 (s.setGroup g gr) := fun _ => h
  have raised : ∀ {n d u}, LinkQuiet s0 u → LinkQuiet s0 (raise n d u) := id
  refine raised ?_
  dsimp only
  split
  exacts [(counted _).append _ _, (counted _).burstTrip _]

theorem evaluateGroup (c : Change) (g : GroupNo) (h : LinkQuiet s0 s) : LinkQuiet s0 (evaluateGroup c g s) := by
  have stated : ∀ gr, LinkQuiet s0 (s.setGroup g gr) := fun _ => h
  unfold Machine.evaluateGroup
  dsimp only
  split
  · split
    · exact h
    · exact h.ite (h.tripGroup g c)
    · exact ((stated _).appendTo _ _).ite (h.appendTo _ _)
    · exact ((stated _).appendTo _ _).ite h
  · exact h

theorem edges (c : Change) (level : Bool) (h : LinkQuiet s0 s) :
    LinkQuiet s0 (captureEdge c level (logEdge c level s)) := by
  have logged : LinkQuiet s0 (logEdge c level s) := (h.appendTo _ _).ite h
  unfold captureEdge
  dsimp only
  split
  exacts [(logged.appendTo _ _).ite logged, logged]

theorem qualifiedChange (c : Change) (level : Bool) (h : LinkQuiet s0 s) :
    LinkQuiet s0 (qualifiedChange c level s) := by
  have levelled : LinkQuiet s0 (s.setLine c.line { s.lines[c.line] with qualified := level }) := h
  unfold Machine.qualifiedChange
  dsimp only
  split
  · rw [enterRing_eq]
    exact List.foldlRecOn _ _ (levelled.edges c level) fun _ k g _ => k.evaluateGroup c g
  · exact levelled

theorem suppress (l : LineNo) (h : LinkQuiet s0 s) : LinkQuiet s0 (suppress l s) := by
  have quieted : ∀ ln, LinkQuiet s0 (s.setLine l ln) := fun _ => h
  unfold Machine.suppress
  dsimp only
  split
  exacts [(quieted _).appendTo _ _, quieted _]

theorem countExcursion (l : LineNo) (h : LinkQuiet s0 s) : LinkQuiet s0 (countExcursion l s) := by
  have counted : ∀ ln, LinkQuiet s0 (s.setLine l ln) := fun _ => h
  exact h.ite (((counted _).suppress l).ite (counted _))

theorem departure (l : LineNo) (h : LinkQuiet s0 s) : LinkQuiet s0 (departure l s) := by
  have locked : ∀ ln, LinkQuiet s0 (s.setLine l ln) := fun _ => h
  unfold Machine.departure
  dsimp only
  split
  · exact (h.qualifiedChange _ _).ite (locked _)
  · exact (h.ite (locked _)).qualifiedChange _ _

theorem rawChange (l : LineNo) (pin : Bool) (h : LinkQuiet s0 s) : LinkQuiet s0 (rawChange l pin s) := by
  have sampled : ∀ ln, LinkQuiet s0 (s.setLine l ln) := fun _ => h
  refine h.ite ?_
  dsimp only
  split
  · exact sampled _
  · exact (sampled _).departure l
  · exact (sampled _).countExcursion l
  · exact ((sampled _).countExcursion l).ite (sampled _)
  · exact sampled _

theorem settlingExpiry (l : LineNo) (h : LinkQuiet s0 s) : LinkQuiet s0 (settlingExpiry l s) := by
  have settled : ∀ ln, LinkQuiet s0 (s.setLine l ln) := fun _ => h
  unfold Machine.settlingExpiry
  dsimp only
  split
  exacts [(settled _).qualifiedChange _ _, h]

theorem lockoutExpiry (l : LineNo) (h : LinkQuiet s0 s) : LinkQuiet s0 (lockoutExpiry l s) := by
  have unlocked : ∀ ln, LinkQuiet s0 (s.setLine l ln) := fun _ => h
  unfold Machine.lockoutExpiry
  dsimp only
  split
  exacts [(unlocked _).ite ((unlocked _).qualifiedChange _ _), h]

theorem releaseExpiry (l : LineNo) (h : LinkQuiet s0 s) : LinkQuiet s0 (releaseExpiry l s) := by
  have released : ∀ ln, LinkQuiet s0 (s.setLine l ln) := fun _ => h
  have ended := fun ln i d => ((released ln).appendTo i d).ite (c := s.mode = .armed) (released ln)
  unfold Machine.releaseExpiry
  dsimp only
  split
  exacts [(ended _ _ _).ite ((ended _ _ _).qualifiedChange _ _), h]

end LinkQuiet
end Sys2Proof.Machine
end

section
/-! The requests, as far as their meanings go before the reply: none but ERASE touches the link's other requests or an
erase. -/

namespace Sys2Proof.Machine

namespace LinkQuiet

variable {s0 s t : State} {r r' : State × Reply}

theorem ite_request {c : Prop} [Decidable c] (h : LinkQuiet s0 r.1) (k : LinkQuiet s0 r'.1) :
    LinkQuiet s0 (if c then r else r').1 := by
  split
  exacts [h, k]

theorem withFields {α : Type} {fields : Option α} {k : α → State → State × Reply} (h : LinkQuiet s0 s)
    (hk : ∀ a, LinkQuiet s0 (k a s).1) : LinkQuiet s0 (withFields fields k s).1 := by
  cases fields
  exacts [h, hk _]

theorem inSetup {k : State → State × Reply} (h : LinkQuiet s0 s) (hk : LinkQuiet s0 (k s).1) :
    LinkQuiet s0 (inSetup k s).1 := ite_request hk h

theorem onCursor {c : CursorNo} {body : Position → Body} {k : SpoolNo → Nat → State → State × Reply}
    (h : LinkQuiet s0 s) (hk : ∀ i pos, LinkQuiet s0 (k i pos s).1) : LinkQuiet s0 (onCursor c body k s).1 := by
  unfold Machine.onCursor
  dsimp only
  split
  · exact h
  · exact ite_request h (ite_request h h)
  · exact ite_request h (ite_request h h)
  · exact ite_request h (ite_request h (hk _ _))

variable (p : List Byte)

/-! ### Requests of the cursor unit -/

/-- A STREAM_END frame frees no tag and holds no slot. -/
theorem pushStreamEnd (c : CursorNo) (reason : StreamEnd) (h : LinkQuiet s0 s) :
    LinkQuiet s0 (pushFrame (.streamEnd c reason) s) :=
  h.trans ⟨.pushed _ fun f hf => by cases List.mem_singleton.1 hf; exact ⟨rfl, rfl⟩, fun _ => id⟩

theorem endStream (c : CursorNo) (reason : StreamEnd) (h : LinkQuiet s0 s) : LinkQuiet s0 (endStream c reason s) := by
  unfold Machine.endStream
  split
  exacts [h.pushStreamEnd c reason, h]

theorem openCursorRequest (h : LinkQuiet s0 s) : LinkQuiet s0 (openCursorRequest p s).1 :=
  h.withFields fun f => by
    refine ite_request h (ite_request h ?_)
    split
    exacts [h, h.endStream f.1 .closed]

theorem closeCursorRequest (h : LinkQuiet s0 s) : LinkQuiet s0 (closeCursorRequest p s).1 :=
  h.withFields fun c => by
    split
    exacts [h, h.endStream c .closed]

theorem stopStreamRequest (h : LinkQuiet s0 s) : LinkQuiet s0 (stopStreamRequest p s).1 :=
  h.withFields fun c => by
    split
    exacts [h, h.pushStreamEnd c .stopped, h]

/-! ### Modes, time and references -/

theorem recordMode (m : Mode) (cause : ModeCause) (h : LinkQuiet s0 s) : LinkQuiet s0 (recordMode m cause s) :=
  h.appendToAll _

theorem armRequest (h : LinkQuiet s0 s) : LinkQuiet s0 (armRequest p s).1 := by
  have settled : LinkQuiet s0 (standGroups (armLines (s.setMode .armed))) := h
  refine h.inSetup ?_
  split
  exacts [h, (settled.recordMode .armed .arm).closeEvent s]

theorem holdRequest (h : LinkQuiet s0 s) : LinkQuiet s0 (holdRequest p s).1 := by
  have ended : LinkQuiet s0 ((Machine.endBurstEarly .held s).setMode .hold) := h.endBurstEarly .held
  exact ite_request ((ended.recordMode .hold .hold).closeEvent s) h

theorem resumeRequest (h : LinkQuiet s0 s) : LinkQuiet s0 (resumeRequest p s).1 := by
  have stood : LinkQuiet s0 (standGroups (s.setMode .armed)) := h
  exact ite_request ((stood.recordMode .armed .resume).closeEvent s) h

theorem disarmRequest (h : LinkQuiet s0 s) : LinkQuiet s0 (disarmRequest p s).1 := by
  have ended : LinkQuiet s0 (groupsOff (disarmLines ((Machine.endBurstEarly .disarmed s).setMode .setup))) :=
    h.endBurstEarly .disarmed
  exact ite_request h ((ended.recordMode .setup .disarm).closeEvent s)

/-- Of the reply queue a soft RESET discards STREAM_END frames alone (R129, R156). -/
theorem resetReadout (h : LinkQuiet s0 s) : LinkQuiet s0 (resetReadout s) := by
  have freed : ∀ q : List Frame,
      (q.filter fun f => !f.isStreamEnd).filterMap Frame.freesTag = q.filterMap Frame.freesTag := fun q => by
    rw [List.filterMap_filter]
    exact congrArg (List.filterMap · q) (funext fun f => by cases f <;> rfl)
  have refusals : ∀ q : List Frame,
      (q.filter fun f => !f.isStreamEnd).filter Frame.isRefusal = q.filter Frame.isRefusal := fun q => by
    rw [List.filter_filter]
    exact congrArg (List.filter · q) (funext fun f => by cases f <;> rfl)
  refine h.trans ⟨⟨rfl, rfl, rfl, ?_, ?_, id, id⟩, fun _ => id⟩
  · exact (List.filterMap_append ..).trans ((congrArg _ (freed _)).trans (List.filterMap_append ..).symm)
  · exact (List.filter_append ..).trans ((congrArg _ (refusals _)).trans (List.filter_append ..).symm)

theorem resetRequest (h : LinkQuiet s0 s) : LinkQuiet s0 (resetRequest p s).1 := by
  have cleared : LinkQuiet s0 (resetRecording s) := h.abandonBurst
  exact (cleared.closeEvent s).resetReadout

theorem setTimeRequest (h : LinkQuiet s0 s) : LinkQuiet s0 (setTimeRequest p s).1 := by
  have stepped : LinkQuiet s0 (s.setTime (field p 1 6)) := h
  exact ((stepped.appendToAll _).ite stepped).closeEvent s

theorem setReferenceRequest (h : LinkQuiet s0 s) : LinkQuiet s0 (setReferenceRequest p s).1 :=
  h.withFields fun f => by
    have stored : LinkQuiet s0 (storeReference f.1 f.2 s) := h
    have stood : ∀ gr, LinkQuiet s0 ((storeReference f.1 f.2 s).setGroup f.1 gr) := fun _ => h
    exact ite_request (((stood _).appendTo _ _).closeEvent _) stored

/-! ### The store's requests -/

theorem setSpoolRequest (h : LinkQuiet s0 s) : LinkQuiet s0 (setSpoolRequest p s).1 := by
  obtain e | ⟨i, capacity, policy, threshold, -, -, e⟩ := setSpoolRequest_cases p s <;> rw [e]
  · exact h
  · rw [storeSpool_frame]
    exact h.setSpool (sp := s.spools[i].configured capacity policy threshold) rfl

theorem cutRequest (h : LinkQuiet s0 s) : LinkQuiet s0 (cutRequest p s).1 :=
  h.withFields fun i => by
    refine ite_request h (ite_request h (ite_request h ?_))
    split
    exacts [h, ite_request h ((h.append i _).closeEvent s)]

theorem releaseRequest (h : LinkQuiet s0 s) : LinkQuiet s0 (releaseRequest p s).1 :=
  h.withFields fun f => by
    have released : LinkQuiet s0 (releaseSpool f.1 f.2 s) := h.setSpool (sp := Spool.removeOldest _ _) rfl
    exact ite_request h (ite_request h (released.closeEvent s))

theorem pinRequest (h : LinkQuiet s0 s) : LinkQuiet s0 (pinRequest p s).1 :=
  h.withFields fun f => ite_request h (ite_request h (ite_request h (ite_request h (ite_request h
    (h.setSpool (sp := { s.spools[f.1] with pins := insertPin f.2 s.spools[f.1].pins }) rfl)))))

theorem unpinRequest (h : LinkQuiet s0 s) : LinkQuiet s0 (unpinRequest p s).1 :=
  h.withFields fun f => ite_request h (ite_request h
    (h.setSpool (sp := { s.spools[f.1] with pins := s.spools[f.1].pins.filter (· != f.2) }) rfl))

/-- GET_COUNTERS sets every counter to 0 at most (R187). -/
theorem getCountersRequest (h : LinkQuiet s0 s) : LinkQuiet s0 (getCountersRequest p s).1 :=
  h.withFields fun clear => by
    cases clear
    · exact h
    · refine h.trans ⟨⟨rfl, rfl, rfl, rfl, rfl, fun _ k => ?_, id⟩, fun i e => ?_⟩
      · show (Vector.replicate 6 0)[k] ≤ max16
        simp
      · show ((mapV (fun sp : Spool => { sp with totalLost := 0 }) s.spools)[i]).erasing.isSome = true
        rw [mapV_get]
        exact e

end LinkQuiet

end Sys2Proof.Machine
end

section
/-! The events of the link that its law does not speak of: the receiver, the counters, and what the arbiter sends. -/

namespace Sys2Proof.Machine

variable {s0 s t : State}

theorem Receiver.elapse_gap (rx : Receiver) (n : Nat) : (rx.elapse n).gap = rx.gap.map (· + n) := by
  cases rx <;> rfl

namespace LinkQuiet

/-- The receiver takes a state in which the gap timer does not run. -/
theorem setRx {rx : Receiver} (h : LinkQuiet s0 s) (stopped : rx.gap = none) : LinkQuiet s0 (s.setRx rx) :=
  h.trans ⟨.received _ fun _ _ hg => (Option.some_ne_none _ (hg.symm.trans stopped)).elim, fun _ => id⟩

theorem countFault (k : CounterNo) (h : LinkQuiet s0 s) : LinkQuiet s0 (countFault k s) :=
  h.trans ⟨.counted _ k, fun _ => id⟩

/-- A character restarts the gap timer, leaves it, or stops it (R161, R164). -/
theorem characterReceived (b : Byte) (s : State) : LinkQuiet s (s.setRx (s.link.rx.take b)) := by
  have gap : ∀ g, (s.link.rx.take b).gap = some g → g = 0 ∨ s.link.rx.gap = some g := fun g hg => by
    unfold Receiver.take at hg
    split at hg
    · split at hg <;> cases hg
      exact .inl rfl
    · next gap hrx =>
      split at hg <;> cases hg
      · exact .inl rfl
      · exact .inr (by rw [hrx]; rfl)
    · split at hg <;> cases hg <;> exact .inl rfl
    · cases hg
      exact .inl rfl
    · next hrx =>
      cases hg
      exact .inr (by rw [hrx]; rfl)
    · cases hg
  refine ⟨.received _ fun fits g hg => ?_, fun _ => id⟩
  obtain rfl | old := gap g hg
  exacts [Nat.zero_le _, fits g old]

theorem gapExpiry (s : State) : LinkQuiet s (gapExpiry s) := (((refl s).setRx rfl).countFault gapTimeouts).ite (refl s)

theorem lengthFault (b : Byte) (s : State) : LinkQuiet s (lengthFault b s) := by
  unfold Machine.lengthFault
  split
  exacts [(refl s).ite (((refl s).setRx rfl).countFault lengthErrors), refl s]

theorem characterError (stillLow : Bool) (s : State) : LinkQuiet s (characterError stillLow s) := by
  have ended : LinkQuiet s (s.setRx (if stillLow then .low else .hunt)) := (refl s).setRx (by cases stillLow <;> rfl)
  unfold Machine.characterError
  dsimp only
  split
  exacts [refl s, ended, ended.countFault characterErrors]

theorem lineHigh (s : State) : LinkQuiet s (lineHigh s) := by
  unfold Machine.lineHigh
  split
  exacts [⟨.received _ nofun, fun _ => id⟩, refl s]

/-- The NOTIFY frame of a class frees no tag and holds no slot. -/
theorem sendNote (c : ClassNo) (free : s.link.path = none) : LinkQuiet s (sendNote c s) := by
  have frame : ∀ fc, s.notes.classes[c].send c = some fc → fc.1.freesTag = none ∧ fc.1.isRefusal = false := by
    intro fc h
    unfold NoteClass.send at h
    split at h <;> obtain ⟨d, -, rfl⟩ := Option.map_eq_some_iff.1 h <;> exact ⟨rfl, rfl⟩
  unfold Machine.sendNote
  split
  · next fc h => exact ⟨.begun free (frame fc h) _ s.link.lastServed, fun _ => id⟩
  · exact refl s

/-- The DATA frame of a stream frees no tag and holds no slot. -/
theorem sendStream (c : CursorNo) (free : s.link.path = none) : LinkQuiet s (sendStream c s) := by
  have frame : ∀ fc, buildFrame c s = some fc → fc.1.freesTag = none ∧ fc.1.isRefusal = false := by
    intro fc h
    unfold buildFrame at h
    dsimp only at h
    split at h <;> cases h
    exact ⟨rfl, rfl⟩
  unfold Machine.sendStream
  split
  · next fc h => exact ⟨.begun free (frame fc h) _ c, fun _ => id⟩
  · exact refl s

theorem arbiterChoice (s : State) : LinkQuiet s (arbiterChoice s) := by
  unfold Machine.arbiterChoice
  split
  · exact refl s
  · next free =>
    split
    · next queue => exact ⟨.sent free queue _, fun _ => id⟩
    · split
      · exact sendNote _ free
      · split
        exacts [sendStream _ free, refl s]

/-- Time that passes while the gap timer is not overdue leaves it in its bound (R164, log entry 8). -/
theorem elapse (due : s.link.gapDue = none) : LinkQuiet s (elapse 1 s) := by
  have frames : (Machine.elapse 1 s).link.frames = s.link.frames := by
    simp only [Machine.elapse, Link.frames, Option.map_map]
    rfl
  refine ⟨⟨rfl, rfl, rfl, by rw [frames], by rw [frames], id, fun _ g hg => ?_⟩, fun i e => ?_⟩
  · have ticked : s.link.rx.gap.map (· + 1) = some g := (s.link.rx.elapse_gap 1).symm.trans hg
    obtain ⟨g', hg', rfl⟩ := Option.map_eq_some_iff.1 ticked
    rw [Link.gapDue, hg'] at due
    dsimp only at due
    split at due
    · cases due
    · exact Nat.lt_of_not_le ‹_›
  · show ((mapV (Spool.elapse 1) s.spools)[i]).erasing.isSome = true
    rw [mapV_get]
    simpa [Spool.elapse, tickTimer] using e

end LinkQuiet

end Sys2Proof.Machine
end

section
/-! The law of the link controller through the requests, the erase, the arrivals, the transmissions and the resets, and
so through every step. -/

namespace Sys2Proof.Machine

variable {s t : State}

/-- The spool of every erase that is outstanding is ERASING. -/
def ErasesRun (s : State) : Prop :=
  ∀ i : SpoolNo, ∀ e ∈ s.link.outstanding, e.stage = .erasing i → s.spools[i].erasing.isSome = true

theorem linkLaw_iff : LinkLaw s ↔ s.link.Lawful ∧ ErasesRun s := by
  have lengths : ∀ i : SpoolNo, (tagsAt (.erasing i) s.link.outstanding).length
      = (s.link.outstanding.filter fun e => e.stage == .erasing i).length := fun i => List.length_map _
  constructor
  · rintro ⟨places, tags, queued, replying, slots, slotBound, erases, erasing, counters, gap⟩
    exact ⟨⟨places, tags, queued, replying, slots, slotBound, fun i => (lengths i).trans_le (erases i), counters, gap⟩,
      erasing⟩
  · rintro ⟨⟨places, tags, queued, replying, slots, slotBound, erases, counters, gap⟩, erasing⟩
    exact ⟨places, tags, queued, replying, slots, slotBound, fun i => (lengths i).symm.trans_le (erases i), erasing,
      counters, gap⟩

theorem ErasesRun.quiet (h : ErasesRun s) (k : LinkQuiet s t) : ErasesRun t := fun i e he hst =>
  k.2 i (h i e (k.1.outstanding ▸ he) hst)

theorem LinkLaw.quiet (h : LinkLaw s) (k : LinkQuiet s t) : LinkLaw t := by
  obtain ⟨lawful, erases⟩ := linkLaw_iff.1 h
  exact linkLaw_iff.2 ⟨lawful.alike k.1, erases.quiet k⟩

/-- An entry after a stage change was there before, or is at the new stage. -/
theorem mem_setStage {tag : Byte} {st : Stage} {es : List Entry} {e : Entry} (h : e ∈ setStage tag st es) :
    e ∈ es ∨ e.stage = st := by
  obtain ⟨e', he', rfl⟩ := List.mem_map.1 h
  split
  exacts [.inr rfl, .inl he']

/-- A stage change that starts no erase. -/
theorem ErasesRun.makeReady (h : ErasesRun s) (tag : Byte) (code : Option Byte) (r : Reply) :
    ErasesRun (makeReady tag code r s) := fun i e he hst => by
  obtain old | replying := mem_setStage he
  · exact h i e old hst
  · exact nomatch replying.symm.trans hst

/-! ### The taking of a request -/

/-- The answer to a request, the link otherwise as before its taking (R177, R181). -/
theorem Link.Lawful.makeReady {a b : List Entry} {e : Entry} {rest : List Request} (h : s.link.Lawful)
    (split : s.link.outstanding = a ++ e :: b) (waiting : e.stage ≠ .replying)
    (queued : rest.map (·.tag) = tagsAt .queued (a ++ b)) (k : (s.taking rest).link.Alike t.link) (code : Option Byte)
    (r : Reply) : (makeReady e.tag code r t).link.Lawful := by
  obtain ⟨freed, refusals⟩ := replyFrames_tags e.tag code r
  have intake : t.link.intake = rest := k.intake
  have answer : (Machine.makeReady e.tag code r t).link = t.link.answered e.tag rest (replyFrames e.tag code r) := by
    rw [← intake]
    rfl
  rw [answer]
  exact (h.answered split waiting queued freed refusals).alike (k.answered _ _ _)

/-- The oldest request is taken and answered at once, its meaning leaving the link's other business alone. -/
theorem LinkLaw.answered {r : Request} {rest : List Request} (h : LinkLaw s) (hi : s.link.intake = r :: rest)
    (k : LinkQuiet (s.taking rest) t) (reply : Reply) : LinkLaw (makeReady r.tag r.code reply t) := by
  obtain ⟨lawful, erases⟩ := linkLaw_iff.1 h
  obtain ⟨a, e, b, split, tag, waiting, queued⟩ := lawful.oldest hi
  have running : ErasesRun (s.taking rest) := erases
  rw [← tag]
  exact linkLaw_iff.2 ⟨lawful.makeReady split (by simp [waiting]) queued k.1 _ _, (running.quiet k).makeReady _ _ _⟩

theorem LinkLaw.serve {row : Instr} {f : List Byte → State → State × Reply} (h : LinkLaw s)
    (hf : ∀ p u, LinkQuiet u (f p u).1) : LinkLaw (serve row f s) := by
  obtain ⟨r, rest, hi, -, e⟩ | ⟨-, e⟩ := serve_cases row f s <;> rw [e]
  · exact h.answered hi (hf r.payload (s.taking rest)) _
  · exact h

theorem LinkLaw.awake {f : State → State} (h : LinkLaw s) (hf : LinkLaw (f s)) : LinkLaw (awake f s) := by
  unfold Machine.awake
  split
  exacts [h, hf]

/-! ### The erase -/

/-- Everything the taking of an ERASE can do: nothing, a refusal, or the start of an erase of an idle spool (R39). -/
theorem takeErase_cases (s : State) : takeErase s = s ∨ ∃ r rest, s.link.intake = r :: rest ∧
    ((∃ reply, takeErase s = makeReady r.tag r.code reply (s.taking rest)) ∨
      ∃ i : SpoolNo, s.spools[i].erasing = none ∧
        let v := recording (startErase i) (s.taking rest)
        takeErase s = v.setLink { v.link with outstanding := setStage r.tag (.erasing i) v.link.outstanding }) := by
  unfold takeErase
  split
  · next r rest hi =>
    split
    · refine .inr ⟨r, rest, hi, ?_⟩
      dsimp only
      split
      · next i allowed hd =>
        refine .inr ⟨i, ?_, rfl⟩
        rw [eraseRefusal, hd] at allowed
        dsimp only at allowed
        split at allowed
        · cases allowed
        · split at allowed
          · cases allowed
          · next idle => simpa using idle
      · exact .inl ⟨_, rfl⟩
    · exact .inl rfl
  · exact .inl rfl

theorem LinkLaw.takeErase (h : LinkLaw s) : LinkLaw (takeErase s) := by
  obtain e | ⟨r, rest, hi, ⟨reply, e⟩ | ⟨i, idle, e⟩⟩ := takeErase_cases s <;> rw [e]
  · exact h
  · exact h.answered hi (.refl _) reply
  · obtain ⟨lawful, erases⟩ := linkLaw_iff.1 h
    obtain ⟨a, en, b, split, tag, waiting, queued⟩ := lawful.oldest hi
    have first : ∀ e' ∈ s.link.outstanding, e'.stage ≠ .erasing i := fun e' he' hst => by
      have := erases i e' he' hst
      rw [idle] at this
      exact nomatch this
    have k : LinkQuiet (s.taking rest) (recording (startErase i) (s.taking rest)) :=
      ((LinkQuiet.refl _).startErase i).recording
    have started : (recording (startErase i) (s.taking rest)).spools[i].erasing.isSome = true := by
      rw [recording, closeEvent_spool, Spool.atEventEnd_erasing, startErase_spool, if_pos rfl]
      split <;> rfl
    rw [← tag]
    refine linkLaw_iff.2 ⟨?_, fun j e' he' hst => ?_⟩
    · have outstanding : (recording (startErase i) (s.taking rest)).link.outstanding = s.link.outstanding :=
        k.1.outstanding
      rw [outstanding]
      exact (lawful.erasing split waiting queued first).alike (k.1.withOutstanding _)
    · obtain old | new := mem_setStage he'
      · have running : ErasesRun (s.taking rest) := erases
        exact running.quiet k j e' old hst
      · cases new.symm.trans hst
        exact started

/-- Once the request that erases a spool is answered, no other one waits for the end of that erase (R177). -/
theorem Link.Lawful.erase_ended {l : Link} {a b : List Entry} {e : Entry} {i : SpoolNo} (h : l.Lawful)
    (split : l.outstanding = a ++ e :: b) (stage : e.stage = .erasing i) :
    ∀ e' ∈ setStage e.tag .replying l.outstanding, e'.stage ≠ .erasing i := by
  have distinct : ((a ++ e :: b).map (·.tag)).Nodup := split ▸ h.tags
  have alone : tagsAt (.erasing i) (a ++ b) = [] := by
    have := h.erases i
    rw [split] at this
    simp only [tagsAt_append, tagsAt_cons, stage, if_true, List.length_append, List.length_cons] at this
    exact List.eq_nil_of_length_eq_zero (by simp only [tagsAt_append, List.length_append]; omega)
  intro e' he' hst
  rw [split, setStage_split distinct] at he'
  have other : e' ∈ a ++ b := by
    obtain he' | he' := List.mem_append.1 he'
    · exact List.mem_append_left _ he'
    · obtain rfl | he' := List.mem_cons.1 he'
      · exact nomatch hst
      · exact List.mem_append_right _ he'
  exact List.not_mem_nil (alone ▸ mem_tagsAt.2 ⟨e', other, hst, rfl⟩)

/-- An erase that no request waits for any more may end (R46). -/
theorem ErasesRun.finishErase {i : SpoolNo} {l : Link} (h : ErasesRun s)
    (ended : ∀ e ∈ l.outstanding, e.stage ≠ .erasing i)
    (before : ∀ e ∈ l.outstanding, e ∈ s.link.outstanding ∨ e.stage = .replying) :
    ErasesRun ((s.setSpool i s.spools[i].finishErase).setLink l) := by
  intro j e he hst
  have other : i ≠ j := by
    rintro rfl
    exact ended e he hst
  rw [State.setLink_spools, setSpool_spool, if_neg other]
  obtain old | new := before e he
  · exact h j e old hst
  · exact nomatch new.symm.trans hst

theorem LinkLaw.completeErase (i : SpoolNo) (h : LinkLaw s) : LinkLaw (completeErase i s) := by
  obtain ⟨lawful, erases⟩ := linkLaw_iff.1 h
  by_cases hx : s.spools[i].erasing = none
  · have unchanged : Machine.completeErase i s = s := by
      unfold Machine.completeErase
      dsimp only
      rw [hx]
    rw [unchanged]
    exact h
  obtain ⟨none, e⟩ | ⟨entry, found, e⟩ := completeErase_cases hx <;> rw [e]
  · have ended : ∀ e ∈ s.link.outstanding, e.stage ≠ .erasing i := fun e he => by
      simpa using List.find?_eq_none.1 none e he
    exact linkLaw_iff.2 ⟨lawful, erases.finishErase ended fun _ he => .inl he⟩
  · obtain ⟨stage, mem⟩ := And.intro (List.find?_some found) (List.mem_of_find?_eq_some found)
    have stage : entry.stage = .erasing i := eq_of_beq stage
    obtain ⟨a, b, split⟩ := List.append_of_mem mem
    have queued : s.link.intake.map (·.tag) = tagsAt .queued (a ++ b) := by
      rw [lawful.queued, split]
      simp [stage]
    exact linkLaw_iff.2 ⟨lawful.makeReady split (by simp [stage]) queued (.refl _) _ _,
      erases.finishErase (lawful.erase_ended split stage) fun _ => mem_setStage⟩

/-! ### Arrivals -/

theorem LinkLaw.makeRefusal (h : LinkLaw s) (tag : Byte) (code : Option Byte) (st : Status) :
    LinkLaw (makeRefusal tag code st s) := by
  unfold Machine.makeRefusal
  split
  · next slot =>
    obtain ⟨lawful, erases⟩ := linkLaw_iff.1 h
    exact linkLaw_iff.2 ⟨lawful.refused tag code st slot, erases⟩
  · exact h.quiet ((LinkQuiet.refl s).countFault refusalsDropped)

theorem LinkLaw.intake (h : LinkLaw s) (tag : Byte) (payload : List Byte) : LinkLaw (intake tag payload s) := by
  unfold Machine.intake
  split
  · exact h.makeRefusal _ _ _
  · next place =>
    split
    · exact h.makeRefusal _ _ _
    · next new =>
      obtain ⟨lawful, erases⟩ := linkLaw_iff.1 h
      refine linkLaw_iff.2 ⟨lawful.accepted (Nat.lt_of_not_le place) new, fun i e he hst => ?_⟩
      obtain he | he := List.mem_append.1 he
      · exact erases i e he hst
      · cases List.mem_singleton.1 he
        exact nomatch hst

theorem LinkLaw.frameArrival (h : LinkLaw s) (low : Byte) : LinkLaw (frameArrival low s) := by
  have ended : LinkQuiet s (s.setRx .hunt) := (LinkQuiet.refl s).setRx rfl
  have handed : ∀ body, LinkLaw (handOn body (s.setRx .hunt)) := fun body => by
    have hunting := h.quiet ended
    unfold handOn
    split
    · split
      exacts [hunting.intake _ _, hunting.makeRefusal _ _ _]
    · exact hunting
  unfold Machine.frameArrival
  split
  · split
    exacts [handed _, h.quiet (ended.countFault checkErrors)]
  · exact h

/-! ### Transmissions, the break and the resets -/

theorem LinkLaw.completeTransmission (h : LinkLaw s) : LinkLaw (completeTransmission s) := by
  obtain ⟨lawful, erases⟩ := linkLaw_iff.1 h
  unfold Machine.completeTransmission
  split
  · next t busy =>
    split
    · have quiet : ∀ {f}, t.frame = f → f.freesTag = none ∧ f.isRefusal = false →
          LinkQuiet s (s.setLink { s.link with path := none }) := fun hf k =>
        ⟨.completed busy (hf ▸ k), fun _ => id⟩
      cases frame : t.frame with
      | reply tag code r last =>
        cases last with
        | true =>
          exact linkLaw_iff.2 ⟨lawful.replied busy frame, fun i e he => erases i e (List.mem_of_mem_filter he)⟩
        | false => exact h.quiet (quiet frame ⟨rfl, rfl⟩)
      | refusal tag code st => exact linkLaw_iff.2 ⟨lawful.refusalSent busy frame, erases⟩
      | streamEnd c reason => exact h.quiet (quiet frame ⟨rfl, rfl⟩)
      | notify c n resend d => exact h.quiet (quiet frame ⟨rfl, rfl⟩)
      | data c ended rs => exact h.quiet (quiet frame ⟨rfl, rfl⟩)
    · exact h
  · exact h

/-- A state whose link has nothing outstanding and nothing to send meets the law. -/
theorem LinkLaw.of_empty (intake : s.link.intake = []) (outstanding : s.link.outstanding = [])
    (queue : s.link.replyQueue = []) (slots : s.link.refusalSlots = 0) (path : s.link.path = none)
    (counters : s.link.CountersFit) (gap : s.link.rx.gap = none) : LinkLaw s :=
  linkLaw_iff.2 ⟨.of_empty intake outstanding queue slots path counters fun _ hg => (nomatch gap.symm.trans hg),
    fun _ e he => by rw [outstanding] at he; exact nomatch he⟩

theorem LinkLaw.linkBreak (h : LinkLaw s) : LinkLaw (linkBreak s) := by
  unfold Machine.linkBreak
  split
  · exact h
  · exact .of_empty rfl rfl rfl rfl rfl ((Link.Alike.counted s.link breaks).counters h.counters) rfl

theorem LinkLaw.rstnLow (h : LinkLaw s) : LinkLaw (rstnLow s) := .of_empty rfl rfl rfl rfl rfl h.counters rfl

theorem LinkLaw.pinReset (pins : LineSet) (spd1 spd0 : Bool) : LinkLaw (pinReset pins spd1 spd0 s) := by
  obtain ⟨-, atReset, -⟩ := lawsHoldAtReset pins (speedOf spd1 spd0)
  exact { atReset with }

/-! ### Every command -/

/-- Every command keeps the law. -/
theorem LinkLaw.exec {c : Instr} (h : LinkLaw s) (e : exec c s = .next t) : LinkLaw t := by
  have quiet : ∀ {f : State → State}, (∀ u, LinkQuiet u (f u)) → LinkLaw (Machine.awake f s) := fun hf =>
    h.awake (h.quiet (hf s))
  have request : ∀ {row} {f : List Byte → State → State × Reply}, (∀ p u, LinkQuiet u u → LinkQuiet u (f p u).1) →
      LinkLaw (Machine.awake (Machine.serve row f) s) := fun hf => h.awake (h.serve fun p u => hf p u (.refl u))
  cases c with
  | arm => exact next_eq e ▸ request fun p _ => .armRequest p
  | hold => exact next_eq e ▸ request fun p _ => .holdRequest p
  | resume => exact next_eq e ▸ request fun p _ => .resumeRequest p
  | disarm => exact next_eq e ▸ request fun p _ => .disarmRequest p
  | reset => exact next_eq e ▸ request fun p _ => .resetRequest p
  | setLine => exact next_eq e ▸ request fun _ _ k => k.withFields fun _ => k.inSetup k
  | setChatter => exact next_eq e ▸ request fun _ _ k => k.withFields fun _ => k.inSetup k
  | setGroup => exact next_eq e ▸ request fun _ _ k => k.withFields fun _ => k.inSetup k
  | setReference => exact next_eq e ▸ request fun p _ => .setReferenceRequest p
  | setSpool => exact next_eq e ▸ request fun p _ => .setSpoolRequest p
  | setBurst => exact next_eq e ▸ request fun _ _ k => k.withFields fun _ => k.inSetup k
  | setNote => exact next_eq e ▸ request fun _ _ k => k.withFields fun _ => k
  | setTime => exact next_eq e ▸ request fun p _ => .setTimeRequest p
  | getTime => exact next_eq e ▸ request fun _ _ => id
  | cut => exact next_eq e ▸ request fun p _ => .cutRequest p
  | release => exact next_eq e ▸ request fun p _ => .releaseRequest p
  | pin => exact next_eq e ▸ request fun p _ => .pinRequest p
  | unpin => exact next_eq e ▸ request fun p _ => .unpinRequest p
  | erase => exact next_eq e ▸ h.awake h.takeErase
  | getSpool => exact next_eq e ▸ request fun _ _ k => k.withFields fun _ => k
  | openCursor => exact next_eq e ▸ request fun p _ => .openCursorRequest p
  | closeCursor => exact next_eq e ▸ request fun p _ => .closeCursorRequest p
  | read => exact next_eq e ▸ request fun _ _ k => k.withFields fun _ => k.onCursor fun _ _ => .ite_request k k
  | space => exact next_eq e ▸ request fun _ _ k => k.withFields fun _ => k.onCursor fun _ _ => k
  | skip => exact next_eq e ▸ request fun _ _ k => k.withFields fun _ => k.onCursor fun _ _ => k
  | stream => exact next_eq e ▸ request fun _ _ k => k.withFields fun _ => k.onCursor fun _ _ => k
  | stopStream => exact next_eq e ▸ request fun p _ => .stopStreamRequest p
  | listSegments => exact next_eq e ▸ request fun _ _ k => k.withFields fun _ => .ite_request k (.ite_request k k)
  | credit => exact next_eq e ▸ request fun _ _ k => k.withFields fun _ => k
  | ackNote => exact next_eq e ▸ request fun _ _ k => k.withFields fun _ => .ite_request k k
  | getStatus => exact next_eq e ▸ request fun _ _ => id
  | getCounters => exact next_eq e ▸ request fun p _ => .getCountersRequest p
  | identify => exact next_eq e ▸ request fun _ _ => id
  | badRequestTaken => exact next_eq e ▸ request fun _ _ => id
  | rawChange l pin => exact next_eq e ▸ quiet fun u => ((LinkQuiet.refl u).rawChange l pin).recording
  | settlingTimerExpiry l => exact next_eq e ▸ quiet fun u => ((LinkQuiet.refl u).settlingExpiry l).recording
  | lockoutExpiry l => exact next_eq e ▸ quiet fun u => ((LinkQuiet.refl u).lockoutExpiry l).recording
  | chatterWindowExpiry l => exact next_eq e ▸ quiet fun u => .ite (.refl u) (.refl u)
  | releaseTimerExpiry l => exact next_eq e ▸ quiet fun u => ((LinkQuiet.refl u).releaseExpiry l).recording
  | deadlineExpiry => exact next_eq e ▸ quiet fun u => (LinkQuiet.refl u).deadline.recording
  | cooldownExpiry => exact next_eq e ▸ quiet fun u => (LinkQuiet.refl u).cooldownEnd
  | acknowledgeTimerExpiry n => exact next_eq e ▸ quiet fun u => .ite (.refl u) (.refl u)
  | gapTimeout => exact next_eq e ▸ quiet .gapExpiry
  | eraseCompletion i => exact next_eq e ▸ h.awake (h.completeErase i)
  | frameArrival b => exact next_eq e ▸ h.awake (h.frameArrival b)
  | lengthFault b => exact next_eq e ▸ quiet (.lengthFault b)
  | characterError low => exact next_eq e ▸ quiet (.characterError low)
  | linkBreak => exact next_eq e ▸ h.awake h.linkBreak
  | arbiterChoice => exact next_eq e ▸ quiet .arbiterChoice
  | transmissionCompletion => exact next_eq e ▸ h.awake h.completeTransmission
  | rstnLow => exact next_eq e ▸ h.rstnLow
  | pinReset pins spd1 spd0 => exact next_eq e ▸ .pinReset pins spd1 spd0
  | powerOn pins spd1 spd0 => exact next_eq e ▸ .pinReset pins spd1 spd0
  | characterReceived b => exact next_eq e ▸ quiet (.characterReceived b)
  | receiveLineReturnsHigh => exact next_eq e ▸ quiet .lineHigh

/-- As `step_cases`; where 1 µs passes, no event of the recorder's own is due, and so no gap timeout (log entry 3). -/
theorem step_cases_gap (h : step s = .next t) :
    (∃ c p, Machine.exec c { s with pending := p } = .next t) ∨ t = s ∨ (s.link.gapDue = none ∧ t = elapse 1 s) := by
  unfold step at h
  split at h
  · exact .inl ⟨_, _, h⟩
  · unfold idle at h
    split at h
    · exact .inr (.inl (next_eq h).symm)
    · split at h
      · exact .inl ⟨_, s.pending, h⟩
      · next idle =>
        simp only [ownEvent, Option.orElse_eq_orElse, Option.orElse_eq_or, Option.or_eq_none_iff] at idle
        obtain ⟨-, -, -, -, -, -, gap, -⟩ := idle
        exact .inr (.inr ⟨gap, (next_eq h).symm⟩)

/-- Settles O55: every command keeps the law, and the idle step lets no time pass with the gap timeout overdue. -/
theorem stepKeepsLinkLaw : Obligations.StepKeepsLinkLaw := by
  intro s t h e
  obtain ⟨c, p, e⟩ | rfl | ⟨due, rfl⟩ := step_cases_gap e
  · have queued : LinkLaw { s with pending := p } := { h with }
    exact queued.exec e
  · exact h
  · exact h.quiet (.elapse due)

end Sys2Proof.Machine
end

section
/-! The receiver: what a character does to it (R161, R164), and each link fault (R162 to R165, R167). -/

namespace Sys2Proof.Machine

variable {s : State} {b : Byte}

/-! ### Characters -/

theorem acceptsLength_iff : acceptsLength b = true ↔ 2 ≤ b.toNat ∧ b.toNat ≤ 250 := by
  simp [acceptsLength]

/-- CHARACTER_RECEIVED is the receiver's own event. -/
theorem exec_characterReceived (hs : s.inReset = false) (b : Byte) :
    exec (.characterReceived b) s = .next (s.setRx (s.link.rx.take b)) := congrArg Host.Outcome.next (awake_running hs)

/-- In HUNT any byte but the start byte is dropped (R161). -/
theorem Receiver.take_hunt (h : b ≠ startByte) : Receiver.hunt.take b = .hunt := if_neg h

/-- A length byte of 2 to 250 is the start of a body (R161). -/
theorem Receiver.take_length (gap : Nat) (h : 2 ≤ b.toNat ∧ b.toNat ≤ 250) :
    (Receiver.length gap).take b = .body b.toNat [] (crcByte crcInit b) 0 := if_pos (acceptsLength_iff.2 h)

/-- Settles O45, receiver state by receiver state. -/
theorem receiverTakesCharacter : Obligations.ReceiverTakesCharacter := by
  intro s b hs becomes
  have taken : ∀ {rx}, s.link.rx.take b = rx → becomes rx := fun h =>
    (exec_characterReceived hs b).trans (congrArg (fun rx => Host.Outcome.next (s.setRx rx)) h)
  have stays : s.link.rx.take b = s.link.rx → exec (.characterReceived b) s = .next s := fun h => taken h
  refine ⟨fun hrx start => taken ?_, fun hrx other => stays ?_, fun gap hrx low high => taken ?_,
    fun len got crc gap hrx => taken ?_, fun got crc gap hrx => taken ?_, fun hrx => stays ?_⟩
  · rw [hrx, start]
    rfl
  · rw [hrx]
    exact Receiver.take_hunt other
  · rw [hrx]
    exact Receiver.take_length gap ⟨low, high⟩
  all_goals
    rw [hrx]
    rfl

/-! ### Faults -/

/-- The check as a number, high byte first (R160). -/
theorem receivedCheck_eq_iff {hi lo : Byte} {crc : BitVec 16} :
    receivedCheck hi lo = crc ↔ crc.toNat = 256 * hi.toNat + lo.toNat := by
  have number : (receivedCheck hi lo).toNat = 256 * hi.toNat + lo.toNat := by
    rw [receivedCheck, BitVec.toNat_append, ← Nat.shiftLeft_add_eq_or_of_lt lo.isLt, Nat.shiftLeft_eq, Nat.mul_comm]
  rw [← BitVec.toNat_inj, number, eq_comm]

theorem frameArrival_good {got : List Byte} {crc : BitVec 16} {hi lo : Byte} {gap : Nat}
    (hrx : s.link.rx = .check got crc (some hi) gap) (hc : crc.toNat = 256 * hi.toNat + lo.toNat) :
    frameArrival lo s = handOn got (s.setRx .hunt) := by
  rw [frameArrival, hrx]
  exact if_pos (receivedCheck_eq_iff.2 hc)

theorem frameArrival_bad {got : List Byte} {crc : BitVec 16} {hi lo : Byte} {gap : Nat}
    (hrx : s.link.rx = .check got crc (some hi) gap) (hc : crc.toNat ≠ 256 * hi.toNat + lo.toNat) :
    frameArrival lo s = countFault checkErrors (s.setRx .hunt) := by
  rw [frameArrival, hrx]
  exact if_neg fun same => hc (receivedCheck_eq_iff.1 same)

theorem gapExpiry_due {g : Nat} (hg : s.link.rx.gap = some g) (due : 2000 ≤ g) :
    gapExpiry s = countFault gapTimeouts (s.setRx .hunt) := by
  have timedOut : s.link.rx.gapOver = true := by
    rw [Receiver.gapOver, hg]
    exact decide_eq_true due
  exact if_pos timedOut

theorem lengthFault_bad {gap : Nat} (hrx : s.link.rx = .length gap) (hb : ¬ (2 ≤ b.toNat ∧ b.toNat ≤ 250)) :
    lengthFault b s = countFault lengthErrors (s.setRx .hunt) := by
  rw [lengthFault, hrx]
  exact if_neg fun ok => hb (acceptsLength_iff.1 ok)

theorem characterError_inFrame (h : s.link.rx.inFrame = true) (stillLow : Bool) :
    characterError stillLow s = countFault characterErrors (s.setRx (if stillLow then .low else .hunt)) := by
  unfold characterError
  cases hrx : s.link.rx with
  | hunt | low => rw [hrx] at h; exact nomatch h
  | length | body | check => rfl

/-- Settles O48: each fault ends the frame in progress and is counted; the two events outside a frame are not. -/
theorem linkFaultCounted : Obligations.LinkFaultCounted := by
  intro s hs fault
  have counted : ∀ {f : State → State} {k rx}, f s = countFault k (s.setRx rx) →
      (.next (awake f s) : Host.Outcome State Fault Refusal) = .next (countFault k (s.setRx rx)) := fun h =>
    congrArg Host.Outcome.next ((awake_running hs).trans h)
  refine ⟨fun b gap hrx hb => counted (lengthFault_bad hrx hb),
    fun got crc hi lo gap hrx hc => counted (frameArrival_bad hrx hc),
    fun g hg due => counted (gapExpiry_due hg due),
    fun stillLow h => counted (characterError_inFrame h stillLow),
    fun stillLow hrx => ?_, fun hrx => ?_⟩
  · refine congrArg Host.Outcome.next ((awake_running hs).trans ?_)
    rw [characterError, hrx]
    rfl
  · refine congrArg Host.Outcome.next ((awake_running hs).trans ?_)
    rw [lineHigh, hrx]
    rfl

end Sys2Proof.Machine
end

section
/-! Arrivals: what becomes of a good frame (R163, R166, R178, R179). -/

namespace Sys2Proof.Machine

section Outcomes

variable {s : State} {tag : Byte} {payload : List Byte}

theorem makeRefusal_slot (code : Option Byte) (st : Status) (free : s.link.refusalSlots < 2) :
    makeRefusal tag code st s = { s with link := { s.link with
      refusalSlots := s.link.refusalSlots + 1, replyQueue := s.link.replyQueue ++ [.refusal tag code st] } } :=
  if_pos free

theorem makeRefusal_dropped (code : Option Byte) (st : Status) (none : 2 ≤ s.link.refusalSlots) :
    makeRefusal tag code st s = countFault refusalsDropped s := if_neg (Nat.not_lt.2 none)

theorem intake_busy (full : 4 ≤ s.link.outstanding.length) :
    intake tag payload s = makeRefusal tag payload.head? .busy s := if_pos full

theorem intake_tagInUse (place : s.link.outstanding.length < 4) (used : tag ∈ s.link.outstanding.map (·.tag)) :
    intake tag payload s = makeRefusal tag payload.head? .tagInUse s :=
  (if_neg (Nat.not_le.2 place)).trans (if_pos used)

theorem intake_accepted (place : s.link.outstanding.length < 4) (new : tag ∉ s.link.outstanding.map (·.tag)) :
    intake tag payload s = { s with link := { s.link with
      intake := s.link.intake ++ [{ tag, payload }],
      outstanding := s.link.outstanding ++ [{ tag, code := payload.head?, stage := .queued }] } } :=
  (if_neg (Nat.not_le.2 place)).trans (if_neg new)

theorem handOn_request {kind : Byte} (h : kind = 0x01) : handOn (kind :: tag :: payload) s = intake tag payload s :=
  if_pos h

theorem handOn_other {kind : Byte} (h : kind ≠ 0x01) :
    handOn (kind :: tag :: payload) s = makeRefusal tag none .badRequest s := if_neg h

end Outcomes

/-- Settles O47: the kind decides who takes the frame, places and tags decide on a REQUEST, the slots on a refusal. -/
theorem goodFrameHandedOn : Obligations.GoodFrameHandedOn := by
  intro s kind tag hi lo payload crc gap hs hrx hc refused
  let u := s.setRx .hunt
  have arrives : ∀ {v}, handOn (kind :: tag :: payload) u = v → exec (.frameArrival lo) s = .next v := fun h =>
    congrArg Host.Outcome.next ((awake_running hs).trans ((frameArrival_good hrx hc).trans h))
  have refuses : ∀ {code st}, handOn (kind :: tag :: payload) u = makeRefusal tag code st u → refused code st :=
    fun h => ⟨fun free => arrives (h.trans (makeRefusal_slot _ _ free)),
      fun none => arrives (h.trans (makeRefusal_dropped _ _ none))⟩
  refine ⟨fun h => refuses (handOn_other h), fun h => ⟨fun full => ?_, fun place used => ?_, fun place new => ?_⟩⟩
  · exact refuses ((handOn_request h).trans (intake_busy full))
  · exact refuses ((handOn_request h).trans (intake_tagInUse place used))
  · exact arrives ((handOn_request h).trans (intake_accepted place new))

end Sys2Proof.Machine
end

section
/-! The bytes of a REQUEST frame received one by one (R160, R161, R163): encoder and receiver agree. -/

namespace Sys2Proof.Machine

theorem arrivalOf_cons {b : Byte} {bs : List Byte} (h : bs ≠ []) :
    arrivalOf (b :: bs) = .characterReceived b :: arrivalOf bs := by
  cases bs
  exacts [absurd rfl h, rfl]

/-- All bytes of a frame but the last are characters that the receiver takes one after the other. -/
theorem runCommands_arrivalOf (bs : List Byte) (last : Byte) {s : State} (hs : s.inReset = false) :
    runCommands (arrivalOf (bs ++ [last])) s =
      runCommands [.frameArrival last] (s.setRx (bs.foldl Receiver.take s.link.rx)) := by
  induction bs generalizing s with
  | nil => rfl
  | cons b bs ih =>
    rw [List.cons_append, arrivalOf_cons (by simp), runCommands, exec_characterReceived hs b]
    exact ih (s := s.setRx (s.link.rx.take b)) hs

/-- The bytes that fill a body are stored in their order and fed to the CRC (R160, R161). -/
theorem Receiver.take_rest {len gap : Nat} {got bs : List Byte} {crc : BitVec 16}
    (hlen : got.length + bs.length = len) (h : bs ≠ []) :
    bs.foldl Receiver.take (.body len got crc gap) = .check (got ++ bs) (bs.foldl crcByte crc) none 0 := by
  induction bs generalizing got crc gap with
  | nil => exact absurd rfl h
  | cons b bs ih =>
    rw [List.length_cons] at hlen
    rw [List.foldl_cons, Receiver.take]
    by_cases hbs : bs = []
    · subst hbs
      have last : got.length + 1 = len := hlen
      rw [if_pos last]
      rfl
    · have more : got.length + 1 ≠ len := by
        have := List.length_pos_iff.2 hbs
        omega
      rw [if_neg more, ih (by simp; omega) hbs, List.append_assoc]
      rfl

/-- Length byte and body of a frame leave the receiver waiting for the check of just these bytes (R160, R161). -/
theorem Receiver.take_frame (kind tag : Byte) {payload : List Byte} (h : payload.length ≤ 248) :
    (startByte :: frameBody kind tag payload).foldl Receiver.take .hunt =
      .check (kind :: tag :: payload) (crcOf (frameBody kind tag payload)) none 0 := by
  have length : (byte (payload.length + 2)).toNat = payload.length + 2 :=
    (BitVec.toNat_ofNat ..).trans (Nat.mod_eq_of_lt (by omega))
  have accepted : (Receiver.hunt.take startByte).take (byte (payload.length + 2)) =
      .body (payload.length + 2) [] (crcByte crcInit (byte (payload.length + 2))) 0 := by
    refine (Receiver.take_length 0 ?_).trans (by rw [length])
    omega
  rw [frameBody, List.foldl_cons, List.foldl_cons, accepted, Receiver.take_rest (by simp) (by simp)]
  rfl

/-- The two check bytes of a frame are read back as its CRC (R160). -/
theorem check_bytes (crc : BitVec 16) :
    crc.toNat = 256 * ((crc >>> 8).setWidth 8).toNat + (crc.setWidth 8 : BitVec 8).toNat := by
  have := crc.isLt
  simp only [BitVec.toNat_setWidth, BitVec.toNat_ushiftRight, Nat.shiftRight_eq_div_pow]
  omega

/-- Settles O46: the bytes before the check leave its CRC in the receiver, and the check bytes are that CRC. -/
theorem requestFrameReceived : Obligations.RequestFrameReceived := by
  intro s tag payload hs hunt hlen place new
  let crc := crcOf (frameBody 0x01 tag payload)
  let high : Byte := (crc >>> 8).setWidth 8
  let low : Byte := crc.setWidth 8
  let received := s.setRx (.check (0x01 :: tag :: payload) crc (some high) 0)
  have bytes : frameBytes 0x01 tag payload = (startByte :: frameBody 0x01 tag payload ++ [high]) ++ [low] := by
    simp [frameBytes, startByte, crc, high, low]
  have taken :
      (startByte :: frameBody 0x01 tag payload ++ [high]).foldl Receiver.take s.link.rx = received.link.rx := by
    rw [hunt, List.foldl_append, Receiver.take_frame _ _ hlen]
    rfl
  have arrived : frameArrival low received = intake tag payload (received.setRx .hunt) :=
    (frameArrival_good (s := received) rfl (check_bytes crc)).trans (handOn_request rfl)
  rw [bytes, runCommands_arrivalOf _ _ hs, taken]
  show runCommands [.frameArrival low] received = _
  have last : exec (.frameArrival low) received = .next (intake tag payload (received.setRx .hunt)) :=
    congrArg Host.Outcome.next ((awake_running (s := received) hs).trans arrived)
  rw [runCommands, last]
  exact congrArg Host.Outcome.next (intake_accepted (s := received.setRx .hunt) place new)

end Sys2Proof.Machine
end

section
/-! The transmit path: the arbiter's choice of a waiting frame or of a notification (R169, R197 to R199), and the
completion of a transmission (R159, R170). -/

namespace Sys2Proof.Machine

/-! ### The choice of a class -/

/-- One class weighed against the best before it (R169 case 2): it is chosen where it can send and its priority is
higher. -/
def betterNote (s : State) (best : Option ClassNo) (c : ClassNo) : Option ClassNo :=
  if s.notes.classes[c].sendable then
    match best with
    | some b => if s.notes.classes[b].priority < s.notes.classes[c].priority then some c else best
    | none => some c
  else best

theorem chooseNote_eq (s : State) : chooseNote s = (List.finRange 6).foldl (betterNote s) none := rfl

section Choice

variable {s : State} {n : ClassNo}

/-- Class `n` is better than the best before it, where every class there that can send has a lower priority. -/
theorem betterNote_higher (able : s.notes.classes[n].sendable = true) {best : Option ClassNo}
    (lower : ∀ b ∈ best, s.notes.classes[b].priority < s.notes.classes[n].priority) :
    betterNote s best n = some n := by
  unfold betterNote
  rw [if_pos able]
  cases best with
  | none => rfl
  | some b => exact if_pos (lower b rfl)

/-- The best of some classes is one of them that can send, if it is none from before. -/
theorem foldl_betterNote_mem (cs : List ClassNo) {best : Option ClassNo} {b : ClassNo}
    (h : b ∈ cs.foldl (betterNote s) best) : b ∈ best ∨ (b ∈ cs ∧ s.notes.classes[b].sendable = true) := by
  induction cs generalizing best with
  | nil => exact .inl h
  | cons c cs ih =>
    obtain here | ⟨later, able⟩ := ih h
    · unfold betterNote at here
      split at here
      · next able =>
        split at here
        · split at here
          · cases here
            exact .inr ⟨List.mem_cons_self .., able⟩
          · exact .inl here
        · cases here
          exact .inr ⟨List.mem_cons_self .., able⟩
      · exact .inl here
    · exact .inr ⟨List.mem_cons_of_mem _ later, able⟩

/-- A best class stays where no later one that can send has a higher priority. -/
theorem foldl_betterNote_stays {cs : List ClassNo} (top : ∀ c ∈ cs, s.notes.classes[c].sendable = true →
    s.notes.classes[c].priority ≤ s.notes.classes[n].priority) : cs.foldl (betterNote s) (some n) = some n := by
  induction cs with
  | nil => rfl
  | cons c cs ih =>
    have stays : betterNote s (some n) c = some n := by
      unfold betterNote
      split
      · next able => exact if_neg (Nat.not_lt.2 (top c (List.mem_cons_self ..) able))
      · rfl
    rw [List.foldl_cons, stays, ih fun c hc => top c (List.mem_cons_of_mem _ hc)]

/-- The class of highest priority among those that can send, the lowest number among equals, is chosen (R169 case 2). -/
theorem chooseNote_best (able : s.notes.classes[n].sendable = true)
    (best : ∀ m : ClassNo, s.notes.classes[m].sendable = true →
      s.notes.classes[m].priority < s.notes.classes[n].priority ∨
        s.notes.classes[m].priority = s.notes.classes[n].priority ∧ n ≤ m) : chooseNote s = some n := by
  obtain ⟨before, after, split⟩ := List.append_of_mem (List.mem_finRange n)
  have earlier : ∀ m ∈ before, m < n := fun m hm =>
    (List.pairwise_append.1 (split ▸ List.pairwise_lt_finRange 6)).2.2 m hm n (List.mem_cons_self ..)
  rw [chooseNote_eq, split, List.foldl_append, List.foldl_cons, betterNote_higher able fun b hb => ?_,
    foldl_betterNote_stays fun c _ hc => ?_]
  · obtain lower | ⟨equal, -⟩ := best c hc
    exacts [lower.le, equal.le]
  · obtain none | ⟨mem, ableB⟩ := foldl_betterNote_mem before hb
    · exact nomatch none
    · obtain lower | ⟨-, le⟩ := best b ableB
      exacts [lower, absurd (earlier b mem) (not_lt_of_ge le)]

/-- With credit and an empty reply queue the chosen notification is sent (R169 case 2, R197). -/
theorem arbiterChoice_note (free : s.link.path = none) (empty : s.link.replyQueue = []) (credit : s.notes.credit ≠ 0)
    (chosen : chooseNote s = some n) : arbiterChoice s = sendNote n s := by
  have note : noteToSend s = some n := (if_neg credit).trans chosen
  rw [arbiterChoice, free]
  dsimp only
  rw [empty]
  dsimp only
  rw [note]

/-- The frame of a class goes to the path, for one credit (R169 case 2, R197). -/
theorem sendNote_eq {f : Frame} {c : NoteClass} (h : s.notes.classes[n].send n = some (f, c)) : sendNote n s = { s with
    notes := { classes := s.notes.classes.set n c, credit := s.notes.credit - 1 },
    link := { s.link with path := some { frame := f, left := f.size * 10 * 1000000 } } } := by
  rw [sendNote, h]
  rfl

end Choice

theorem NoteClass.send_resend {n : ClassNo} {c : NoteClass} {d : Detail} (due : c.resendDue = true)
    (h : c.outstanding = some d) :
    c.send n = some (.notify n c.noteNumber true d, { c with resendDue := false, timer := c.startTimer }) := by
  rw [NoteClass.send, if_pos due, h]
  rfl

theorem NoteClass.send_pending {n : ClassNo} {c : NoteClass} {d : Detail} (due : c.resendDue = false)
    (h : c.pendingDetail = some d) :
    c.send n = some (.notify n ((c.noteNumber + 1) % 256) false d,
      { c with noteNumber := (c.noteNumber + 1) % 256, outstanding := some d, pendingDetail := none,
               timer := c.startTimer }) := by
  rw [NoteClass.send, if_neg (by simp [due]), h]
  rfl

/-- Settles O50: a BUSY path, else the oldest frame of the reply queue, else the best class and what it sends. -/
theorem arbiterSendsReplyOrNote : Obligations.ArbiterSendsReplyOrNote := by
  intro s hs
  have chosen : ∀ {t}, arbiterChoice s = t → exec .arbiterChoice s = .next t := fun h =>
    congrArg Host.Outcome.next ((awake_running hs).trans h)
  refine ⟨fun p busy => chosen ?_, fun free => ⟨fun f rest queue => chosen ?_, fun empty credit n able best => ?_⟩⟩
  · rw [arbiterChoice, busy]
  · rw [arbiterChoice, free]
    dsimp only
    rw [queue]
    rfl
  · have note := arbiterChoice_note free empty credit (chooseNote_best able best)
    exact ⟨fun d due h => chosen (note.trans (sendNote_eq (NoteClass.send_resend due h))),
      fun d due h => chosen (note.trans (sendNote_eq (NoteClass.send_pending due h)))⟩

/-! ### The completion -/

/-- Settles O52: the path is free, and the owner of the frame is told by the frame's sort. -/
theorem transmissionCompleted : Obligations.TransmissionCompleted := by
  intro s p hs busy sent freed
  have told : ∀ {f}, p.frame = f → exec .transmissionCompletion s = .next (tellOwner f (freed s.link)) := fun hf => by
    refine congrArg Host.Outcome.next ((awake_running hs).trans ?_)
    rw [completeTransmission, busy]
    exact (if_pos sent).trans (by rw [hf]; rfl)
  refine ⟨fun tag code r h => (told h).trans ?_, fun _ _ _ h => told h, fun _ _ _ h => told h, fun _ _ h => told h,
    fun _ _ _ _ h => told h, fun _ _ _ h => told h⟩
  have others : (fun e : Entry => decide (e.tag ≠ tag)) = fun e => e.tag != tag :=
    funext fun e => by simp [bne, Bool.beq_eq_decide_eq]
  rw [others]
  rfl

end Sys2Proof.Machine
end

section
/-! The status requests: GET_TIME, IDENTIFY and GET_STATUS (R70, R186, R188), and GET_COUNTERS (R187). -/

namespace Sys2Proof.Machine

/-- A request whose meaning takes the state to `t` but for its leaving the intake, answered in one frame. -/
theorem awake_serve_becomes {s t : State} {row : Instr} {f : List Byte → State → State × Reply} {tag code : Byte}
    {fields : List Byte} {rest : List Request} {st : Status} {body : Body} (hs : s.inReset = false)
    (hi : s.link.intake = ⟨tag, code :: fields⟩ :: rest) (hrow : Request.row ⟨tag, code :: fields⟩ = row)
    (hf : f (code :: fields) (s.taking rest) = (t.taking rest, ⟨st, body⟩))
    (hb : ∀ c rs p, body = .read c rs p → rs.length ≤ Config.recordsPerFrame) :
    awake (serve row f) s = t.answered tag rest code st body := by
  rw [awake_serve hs hi hrow, hf]
  exact makeReady_answered t (t.taking rest) tag fields rest code st body rfl hb

/-- Settles O7: each reply is read from the state, which stays as it is. -/
theorem reportsChangeNothing : Obligations.ReportsChangeNothing := by
  intro s tag rest hs
  refine ⟨fun hi => ?_, fun hi => ⟨?_, rfl⟩, fun hi => ⟨s.statusReport, ?_, rfl, fun l => ⟨?_, ?_, ?_⟩, fun g => ?_, rfl⟩⟩
  · exact congrArg Host.Outcome.next (awake_serve_unchanged hs hi rfl rfl nofun)
  · exact congrArg Host.Outcome.next (awake_serve_unchanged hs hi rfl rfl nofun)
  · exact congrArg Host.Outcome.next (awake_serve_unchanged hs hi rfl rfl nofun)
  · exact bitsOf_getLsbD (fun l => s.lines[l].raw) l
  · exact bitsOf_getLsbD (fun l => s.lines[l].qualified) l
  · simp [State.statusReport]
  · simp [State.statusReport]

/-- An option above 1 is no yes or no (R187, R212). -/
theorem yesNo_above {k : Nat} (h : 1 < k) : yesNo k = none := by
  rw [yesNo, if_neg (by omega), if_neg (by omega)]

/-- GET_COUNTERS with its option read (R187). -/
theorem getCountersRequest_option {n : Byte} {clear : Bool} (h : n = if clear then 1 else 0) (s : State) :
    getCountersRequest [0x61, n] s = (if clear then clearCounters s else s, ⟨.ok, s.countersBody clear⟩) := by
  subst h
  cases clear <;> rfl

/-- Settles O9: the body is read before the counts are cleared, and the clearing touches nothing else. -/
theorem countersReportedAndCleared : Obligations.CountersReportedAndCleared := by
  intro s tag n rest hs hi
  refine ⟨fun hn => congrArg Host.Outcome.next (settings_refused hs hi rfl (yesNo_above hn)), fun clear hn => ?_⟩
  have option := getCountersRequest_option hn (s.taking rest)
  cases clear with
  | false => exact ⟨s, congrArg Host.Outcome.next (awake_serve_becomes hs hi rfl option nofun), fun _ => rfl, nofun⟩
  | true =>
    exact ⟨clearCounters s, congrArg Host.Outcome.next (awake_serve_becomes hs hi rfl option nofun), nofun,
      fun _ => ⟨fun k => by simp [clearCounters], fun i => mapV_get _ _ i, fun g => mapV_get _ _ g, rfl⟩⟩

end Sys2Proof.Machine
end

section
/-! Requests that are refused before anything is carried out: the checks 1 and 2 of R182, and the disabled and the ERASING
spool (R29, R39, R44, R45, R136, R144). -/

namespace Sys2Proof.Machine

/-! ### What a request that is refused does -/

/-- A request of row `row` with this payload, taken in `u`, is refused with status `st` and an empty body. ERASE has a
meaning of its own kind, as its reply may wait for the completion (R181). -/
inductive Refuses (u : State) (payload : List Byte) (st : Status) : Instr → Prop where
  | erase (h : eraseRefusal payload u = some st) : Refuses u payload st .erase
  | served {row : Instr} (f : List Byte → State → State × Reply) (meaning : ∀ s, exec row s = .next (awake (serve row f) s))
      (h : f payload u = (u, ⟨st, .empty⟩)) : Refuses u payload st row

/-- An ERASE that does not start is answered at once (R39). -/
theorem takeErase_refused {s : State} {r : Request} {rest : List Request} {st : Status} (hi : s.link.intake = r :: rest)
    (hrow : r.row = .erase) (h : eraseRefusal r.payload (s.taking rest) = some st) :
    takeErase s = makeReady r.tag r.code ⟨st, .empty⟩ (s.taking rest) := by
  change eraseRefusal r.payload (s.setLink { s.link with intake := rest }) = some st at h
  unfold takeErase
  rw [hi]
  dsimp only
  rw [if_pos hrow, h]
  rfl

/-- A refused request changes nothing (R183). -/
theorem Refuses.answered {s : State} {tag code : Byte} {payload : List Byte} {rest : List Request} {st : Status} {row : Instr}
    (h : Refuses (s.taking rest) payload st row) (hs : s.inReset = false) (hi : s.link.intake = ⟨tag, payload⟩ :: rest)
    (hcode : payload.head? = some code) (hrow : Request.row ⟨tag, payload⟩ = row) :
    exec row s = .next (s.answered tag rest code st .empty) := by
  obtain ⟨fields, rfl⟩ := List.head?_eq_some_iff.1 hcode
  cases h with
  | erase h =>
    refine congrArg Host.Outcome.next ((awake_running hs).trans ((takeErase_refused hi hrow h).trans ?_))
    exact makeReady_answered s (s.taking rest) tag fields rest code st .empty rfl nofun
  | served f meaning h => exact (meaning s).trans (congrArg Host.Outcome.next (awake_serve_unchanged hs hi hrow h nofun))

/-- A request whose fields are not all in range (R182). -/
theorem Refuses.fields {u : State} {payload : List Byte} {row : Instr} {α : Type} (decode : List Byte → State → Option α)
    {k : α → State → State × Reply}
    (meaning : ∀ s, exec row s = .next (awake (serve row fun p u => withFields (decode p u) k u) s))
    (h : decode payload u = none) : Refuses u payload .badArgument row :=
  .served _ meaning (by rw [h, withFields_none])

/-! ### Check 1 -/

/-- A payload that fits no entry of the catalogue is the row of a refused request (R182). -/
theorem Request.row_bad {tag : Byte} {payload : List Byte}
    (h : ∀ e ∈ catalogue, payload.head? = some e.1 → payload.length ≠ e.2.1) :
    Request.row ⟨tag, payload⟩ = .badRequestTaken := by
  have unknown : catalogue.find? (fun e => Request.code ⟨tag, payload⟩ == some e.1 && payload.length == e.2.1) = none :=
    List.find?_eq_none.2 fun e he fits => by
      rw [Bool.and_eq_true, beq_iff_eq, beq_iff_eq] at fits
      exact h e he fits.1 fits.2
  rw [Request.row, unknown]

/-! ### Check 2: the number a request begins with -/

/-- The rows whose second byte is the number of one of `limit` resources. -/
def Instr.Numbered (row : Instr) (limit : Nat) : Prop :=
  (row ∈ [Instr.cut, .release, .pin, .unpin, .erase, .getSpool, .setSpool, .listSegments] ∧ limit = 4) ∨
    (row ∈ [Instr.openCursor, .closeCursor, .read, .space, .skip, .stream, .stopStream] ∧ limit = 4) ∨
    (row = .setLine ∧ limit = 32) ∨ (row ∈ [Instr.setGroup, .setReference] ∧ limit = 8) ∨
    (row ∈ [Instr.setNote, .ackNote] ∧ limit = 6)

/-- A number that names no resource. -/
theorem below_none {n k : Nat} (h : n ≤ k) : below n k = none := dif_neg (Nat.not_lt.2 h)

/-- A layout that begins with the number of a resource is not read where the number names none. -/
theorem bind_below {n k : Nat} {α : Type} {f : Fin n → Option α} (h : below n k = none) : (below n k).bind f = none := by
  rw [h, Option.bind_none]

/-- A request whose second byte names no resource is refused (R182). -/
theorem refuses_number {u : State} {p : List Byte} {row : Instr} {limit : Nat} (numbered : Instr.Numbered row limit)
    (h : below limit (byteAt p 1) = none) : Refuses u p .badArgument row := by
  simp only [Instr.Numbered, List.mem_cons, List.not_mem_nil, or_false] at numbered
  obtain ⟨spools, rfl⟩ | ⟨cursors, rfl⟩ | ⟨rfl, rfl⟩ | ⟨groups, rfl⟩ | ⟨classes, rfl⟩ := numbered
  · obtain rfl | rfl | rfl | rfl | rfl | rfl | rfl | rfl := spools
    · exact .fields (fun p _ => decodeSpool p) (fun _ => rfl) h
    · exact .fields (fun p _ => decodeRelease p) (fun _ => rfl) (bind_below h)
    · exact .fields (fun p _ => decodePin p) (fun _ => rfl) (bind_below h)
    · exact .fields (fun p _ => decodePin p) (fun _ => rfl) (bind_below h)
    · exact .erase (by rw [eraseRefusal, decodeSpool, h])
    · exact .fields (fun p _ => decodeSpool p) (fun _ => rfl) h
    · exact .fields setSpoolFields (fun _ => rfl) (congrArg (Option.filter _) (bind_below h))
    · exact .fields (fun p _ => decodeListSegments p) (fun _ => rfl) (bind_below h)
  · obtain rfl | rfl | rfl | rfl | rfl | rfl | rfl := cursors
    · exact .fields (fun p _ => decodeOpenCursor p) (fun _ => rfl) (bind_below h)
    · exact .fields (fun p _ => decodeCursor p) (fun _ => rfl) h
    · exact .fields (fun p _ => decodeRead p) (fun _ => rfl) (bind_below h)
    · exact .fields (fun p _ => decodeMove p) (fun _ => rfl) (bind_below h)
    · exact .fields (fun p _ => decodeMove p) (fun _ => rfl) (bind_below h)
    · exact .fields (fun p _ => decodeStream p) (fun _ => rfl) (bind_below h)
    · exact .fields (fun p _ => decodeCursor p) (fun _ => rfl) h
  · exact .fields (fun p _ => decodeSetLine p) (fun _ => rfl) (bind_below h)
  · obtain rfl | rfl := groups
    · exact .fields (fun p _ => decodeSetGroup p) (fun _ => rfl) (bind_below h)
    · exact .fields (fun p _ => decodeSetReference p) (fun _ => rfl) (bind_below h)
  · obtain rfl | rfl := classes
    · exact .fields (fun p _ => decodeSetNote p) (fun _ => rfl) (bind_below h)
    · exact .fields (fun p _ => decodeAckNote p) (fun _ => rfl) (bind_below h)

/-! ### Check 2: the fields after the number -/

theorem below_lt {n k : Nat} {i : Fin n} (h : below n k = some i) : k < n := below_eq_some.1 h ▸ i.isLt

/-- A code with the two values 0 and 1, such as a yes/no byte, a qualify mode, a policy or an action (R207, R212). -/
theorem twoCodes_le {α : Type} {a b c : α} {k : Nat}
    (h : (if k = 0 then some a else if k = 1 then some b else none) = some c) : k ≤ 1 := by
  split at h
  · omega
  · split at h
    exacts [by omega, nomatch h]

theorem startOf_le {p : List Byte} {st : Start} (h : startOf p = some st) : byteAt p 3 ≤ 4 := by
  unfold startOf at h
  split at h
  case h_6 => exact nomatch h
  all_goals omega

/-- The bytes of a SET_LINE that is read (R49, R214). -/
theorem decodeSetLine_ranges {p : List Byte} {f : LineNo × LineConfig} (h : decodeSetLine p = some f) :
    byteAt p 2 ≤ 31 ∧ byteAt p 3 ≤ 1 ∧ byteAt p 7 < 4 := by
  simp only [decodeSetLine, Option.bind_eq_bind, Option.bind_eq_some_iff, inRange_eq_some] at h
  obtain ⟨_, -, _, ⟨-, -, flags⟩, _, qualify, _, route, -⟩ := h
  exact ⟨flags, twoCodes_le qualify, below_lt route⟩

/-- The bytes of a SET_GROUP that is read (R72, R214). -/
theorem decodeSetGroup_ranges {p : List Byte} {f : GroupNo × GroupConfig} (h : decodeSetGroup p = some f) :
    byteAt p 2 ≤ 3 ∧ byteAt p 11 ≤ 3 ∧ byteAt p 12 < 4 ∧ byteAt p 13 ≤ 1 ∧ 1 ≤ field p 14 2 ∧ field p 14 2 ≤ 60000 := by
  simp only [decodeSetGroup, Option.bind_eq_bind, Option.bind_eq_some_iff, inRange_eq_some] at h
  obtain ⟨_, -, _, ⟨-, -, flags⟩, _, ⟨-, -, priority⟩, _, route, _, action, _, ⟨-, shortest, longest⟩, -⟩ := h
  exact ⟨flags, priority, below_lt route, twoCodes_le action, shortest, longest⟩

/-- The bytes of a SET_SPOOL that is read, and the capacities with the new one (R7, R214). -/
theorem setSpoolFields_ranges {p : List Byte} {u : State} {f : SpoolNo × Nat × Policy × Nat}
    (h : setSpoolFields p u = some f) :
    byteAt p 1 = f.1.val ∧ byteAt p 4 ≤ 1 ∧ field p 2 2 % 64 = 0 ∧ field p 5 2 ≤ field p 2 2 ∧
      field p 2 2 + (((List.finRange 4).filter (· ≠ f.1)).map fun k => u.spools[k].capacity).sum ≤ 8192 := by
  obtain ⟨i, capacity, policy, threshold⟩ := f
  obtain ⟨aligned, -, total⟩ := setSpoolFields_ok h
  obtain ⟨read, -⟩ := Option.filter_eq_some_iff.1 h
  obtain ⟨spool, rfl, -, policyByte, rfl, le⟩ := decodeSetSpool_eq_some.1 read
  rw [sum_replaced fun k => u.spools[k].capacity] at total
  exact ⟨below_eq_some.1 spool, twoCodes_le policyByte, aligned, le, total⟩

/-- The enable byte of a SET_NOTE that is read (R195, R212). -/
theorem decodeSetNote_enable {p : List Byte} {f : ClassNo × Bool × Nat × Nat} (h : decodeSetNote p = some f) :
    byteAt p 2 ≤ 1 := by
  simp only [decodeSetNote, Option.bind_eq_bind, Option.bind_eq_some_iff] at h
  obtain ⟨_, -, _, enable, -⟩ := h
  exact twoCodes_le enable

/-- The bytes of an OPEN_CURSOR that is read (R136, R214). -/
theorem decodeOpenCursor_ranges {p : List Byte} {f : CursorNo × SpoolNo × Start} (h : decodeOpenCursor p = some f) :
    byteAt p 2 < 4 ∧ byteAt p 3 ≤ 4 := by
  simp only [decodeOpenCursor, Option.bind_eq_bind, Option.bind_eq_some_iff] at h
  obtain ⟨_, -, _, spool, _, start, -⟩ := h
  exact ⟨below_lt spool, startOf_le start⟩

/-- The count of a READ that is read (R140). -/
theorem decodeRead_count {p : List Byte} {f : CursorNo × Nat} (h : decodeRead p = some f) :
    1 ≤ byteAt p 2 ∧ byteAt p 2 ≤ 8 := by
  simp only [decodeRead, Option.bind_eq_bind, Option.bind_eq_some_iff, inRange_eq_some] at h
  obtain ⟨_, -, _, ⟨-, count⟩, -⟩ := h
  exact count

/-- SPACE and SKIP with the count 0 (R142, R143). -/
theorem decodeMove_zero {p : List Byte} (h : field p 2 2 = 0) : decodeMove p = none := by
  have count : signedCount (field p 2 2) = none := if_pos h
  rw [decodeMove, count]
  exact Option.bind_fun_none _

/-- The follow byte of a STREAM that is read (R149, R212). -/
theorem decodeStream_follow {p : List Byte} {f : CursorNo × Nat × Bool} (h : decodeStream p = some f) :
    byteAt p 4 ≤ 1 := by
  simp only [decodeStream, Option.bind_eq_bind, Option.bind_eq_some_iff] at h
  obtain ⟨_, -, _, follow, -⟩ := h
  exact twoCodes_le follow

/-- The count of a LIST_SEGMENTS that is read (R144). -/
theorem decodeListSegments_count {p : List Byte} {f : SpoolNo × Nat × Nat} (h : decodeListSegments p = some f) :
    1 ≤ byteAt p 6 ∧ byteAt p 6 ≤ 8 := by
  simp only [decodeListSegments, Option.bind_eq_bind, Option.bind_eq_some_iff, inRange_eq_some] at h
  obtain ⟨_, -, _, ⟨-, count⟩, -⟩ := h
  exact count

/-- A byte above 0 and not above 8 is a count (R140, R144). -/
theorem count_byte {k : Byte} (h : 1 ≤ k.toNat) : k ≠ 0 := by
  rintro rfl
  exact nomatch h

/-- The fields of a request out of range are not read, so it is refused (R182). -/
theorem BadField.refuses {s u : State} {row : Instr} {payload : List Byte} (bad : BadField s row payload)
    (hu : u.spools = s.spools) : Refuses u payload .badArgument row := by
  have unread : ∀ {α : Type} {o : Option α}, (∀ a, o ≠ some a) → o = none := Option.eq_none_iff_forall_ne_some.2
  cases bad with
  | setLine l flags mode q q' k route h =>
    refine .fields (fun p _ => decodeSetLine p) (fun _ => rfl) (unread fun f read => ?_)
    have : flags.toNat ≤ 31 ∧ mode.toNat ≤ 1 ∧ route.toNat < 4 := decodeSetLine_ranges read
    omega
  | setGroup g flags priority route action members reference w hw h =>
    refine .fields (fun p _ => decodeSetGroup p) (fun _ => rfl) (unread fun f read => ?_)
    have sent := field_last ([0x12, g, flags] ++ leBytes 4 members.toNat ++ leBytes 4 reference.toNat
      ++ [priority, route, action]) 2 w (Nat.lt_succ_of_le hw)
    obtain ⟨flagsOk, priorityOk, routeOk, actionOk, window⟩ := decodeSetGroup_ranges read
    change flags.toNat ≤ 3 at flagsOk
    change priority.toNat ≤ 3 at priorityOk
    change route.toNat < 4 at routeOk
    change action.toNat ≤ 1 at actionOk
    change 1 ≤ field _ _ 2 ∧ _ at window
    simp only [List.length_append, leBytes_length, List.length_cons, List.length_nil] at sent
    rw [sent] at window
    omega
  | setSpool i policy capacity threshold hc ht h =>
    refine .fields setSpoolFields (fun _ => rfl) (unread fun f read => ?_)
    have capacitySent : field ([0x14, i] ++ leBytes 2 capacity ++ [policy] ++ leBytes 2 threshold) 2 2 = capacity :=
      field_append [_, _] ([policy] ++ leBytes 2 threshold) 2 capacity (Nat.lt_succ_of_le hc)
    have thresholdSent : field ([0x14, i] ++ leBytes 2 capacity ++ [policy] ++ leBytes 2 threshold) 5 2 = threshold :=
      field_last ([_, _] ++ leBytes 2 capacity ++ [policy]) 2 threshold (Nat.lt_succ_of_le ht)
    obtain ⟨spool, policyOk, aligned, le, total⟩ := setSpoolFields_ranges read
    change i.toNat = f.1.val at spool
    change policy.toNat ≤ 1 at policyOk
    rw [capacitySent] at aligned le total
    rw [thresholdSent] at le
    obtain h | h | h | ⟨j, hj, h⟩ := h
    · omega
    · exact h aligned
    · omega
    · have same : f.1 = j := Fin.ext (spool.symm.trans hj)
      rw [hu, same] at total
      omega
  | setNote n enable priority t t' h =>
    refine .fields (fun p _ => decodeSetNote p) (fun _ => rfl) (unread fun f read => ?_)
    have : enable.toNat ≤ 1 := decodeSetNote_enable read
    omega
  | openCursor c i start value hv h =>
    refine .fields (fun p _ => decodeOpenCursor p) (fun _ => rfl) (unread fun f read => ?_)
    have : i.toNat < 4 ∧ start.toNat ≤ 4 := decodeOpenCursor_ranges read
    omega
  | read c k h =>
    refine .fields (fun p _ => decodeRead p) (fun _ => rfl) (unread fun f read => ?_)
    have count : 1 ≤ k.toNat ∧ k.toNat ≤ 8 := decodeRead_count read
    exact h.elim (count_byte count.1) (Nat.not_lt.2 count.2)
  | space c => exact .fields (fun p _ => decodeMove p) (fun _ => rfl) (decodeMove_zero rfl)
  | skip c => exact .fields (fun p _ => decodeMove p) (fun _ => rfl) (decodeMove_zero rfl)
  | stream c n n' follow h =>
    refine .fields (fun p _ => decodeStream p) (fun _ => rfl) (unread fun f read => ?_)
    have : follow.toNat ≤ 1 := decodeStream_follow read
    omega
  | listSegments i count start hs h =>
    refine .fields (fun p _ => decodeListSegments p) (fun _ => rfl) (unread fun f read => ?_)
    have range : 1 ≤ count.toNat ∧ count.toNat ≤ 8 := decodeListSegments_count read
    exact h.elim (count_byte range.1) (Nat.not_lt.2 range.2)

/-- Its row is that of its code, as its length fits (R212). -/
theorem BadField.rowed {s : State} {row : Instr} {payload : List Byte} (bad : BadField s row payload) (tag : Byte) :
    Request.row ⟨tag, payload⟩ = row := by
  cases bad with
  | openCursor c i start value hv h =>
    obtain ⟨a, b, c, d, e, f, rfl⟩ : ∃ a b c d e f, value = [a, b, c, d, e, f] := by
      match value, hv with
      | [a, b, c, d, e, f], _ => exact ⟨a, b, c, d, e, f, rfl⟩
    rfl
  | _ => rfl

theorem BadField.coded {s : State} {row : Instr} {payload : List Byte} (bad : BadField s row payload) :
    payload.head? = some (payload.headD 0) := by
  cases bad <;> rfl

/-! ### The spool a request names -/

section Named

variable {u : State} {i : SpoolNo} {row : Instr} {code : Byte} {payload : List Byte}

theorem NamesSpool.rowed (named : NamesSpool i row code payload) (tag : Byte) : Request.row ⟨tag, payload⟩ = row := by
  cases named with
  | openCursor c st => cases st <;> rfl
  | _ => rfl

theorem NamesSpool.coded (named : NamesSpool i row code payload) : payload.head? = some code := by
  cases named <;> rfl

/-- A request that names a disabled spool (R29, R39, R136, R144). -/
theorem NamesSpool.disabled (named : NamesSpool i row code payload) (h : u.spools[i].capacity = 0) :
    Refuses u payload .spoolDisabled row := by
  have off := Spool.disabled_iff.2 h
  cases named with
  | release n hn =>
    refine .served releaseRequest (fun _ => rfl) ?_
    rw [releaseRequest, decodeRelease_payload i hn]
    exact if_pos off
  | erase =>
    refine .erase ?_
    rw [eraseRefusal, decodeSpool_erase]
    exact if_pos off
  | openCursor c st hn hg =>
    refine .served openCursorRequest (fun _ => rfl) ?_
    rw [openCursorRequest, decodeOpenCursor_payload c i hn hg]
    exact if_pos off
  | listSegments start count hs h1 h8 =>
    refine .served listSegmentsRequest (fun _ => rfl) ?_
    rw [listSegmentsRequest, decodeListSegments_payload i hs h1 h8]
    exact if_pos off

/-- A request other than LIST_SEGMENTS that names an ERASING spool (R29, R39, R44, R136). -/
theorem NamesSpool.busy (named : NamesSpool i row code payload) (h : u.spools[i].capacity ≠ 0)
    (hx : u.spools[i].erasing ≠ none) (hrow : row ≠ .listSegments) : Refuses u payload .spoolBusy row := by
  have on := mt Spool.disabled_iff.1 h
  have erasing := Option.isSome_iff_ne_none.2 hx
  cases named with
  | release n hn =>
    refine .served releaseRequest (fun _ => rfl) ?_
    rw [releaseRequest, decodeRelease_payload i hn]
    exact (if_neg on).trans (if_pos erasing)
  | erase =>
    refine .erase ?_
    rw [eraseRefusal, decodeSpool_erase]
    exact (if_neg on).trans (if_pos erasing)
  | openCursor c st hn hg =>
    refine .served openCursorRequest (fun _ => rfl) ?_
    rw [openCursorRequest, decodeOpenCursor_payload c i hn hg]
    exact (if_neg on).trans (if_pos erasing)
  | listSegments => exact absurd rfl hrow

/-- A LIST_SEGMENTS of an ERASING spool lists nothing (R45, R144). -/
theorem listSegmentsRequest_erasing {start count : Nat} (hs : start ≤ max32) (h1 : 1 ≤ count) (h8 : count ≤ 8)
    (h : u.spools[i].capacity ≠ 0) (hx : u.spools[i].erasing ≠ none) :
    listSegmentsRequest (Payload.listSegments i start count) u =
      (u, ⟨.ok, .segments true [] (u.spools[i].moreWhileErasing start)⟩) := by
  rw [listSegmentsRequest, decodeListSegments_payload i hs h1 h8]
  exact (if_neg (mt Spool.disabled_iff.1 h)).trans (if_pos (Option.isSome_iff_ne_none.2 hx))

end Named

/-- Where no held segment is numbered from the start on, none remains (R144). -/
theorem Spool.moreWhileErasing_below {sp : Spool} {start : Nat} (h : ∀ r ∈ sp.held, r.seg < start) :
    sp.moreWhileErasing start = false := by
  have listed : (sp.segNumbers.filter fun n => start ≤ n) = [] := List.filter_eq_nil_iff.2 fun n hn reached => by
    obtain ⟨r, hr, rfl⟩ := List.mem_map.1 (List.mem_eraseDups.1 hn)
    exact Nat.not_lt.2 (of_decide_eq_true reached) (h r hr)
  rw [moreWhileErasing, listed]
  rfl

/-- Settles O6: each refusal is that of the request's own meaning, and LIST_SEGMENTS of an ERASING spool an answer. -/
theorem requestsFailingChecksRefused : Obligations.RequestsFailingChecksRefused := by
  intro s tag rest hs
  refine ⟨fun payload hi unfit => ?_, fun code n fields row limit hi hrow numbered hn => ?_,
    fun row payload hi bad => ?_, fun i row code payload hi named => ⟨fun off => ?_, fun on hx hrow => ?_⟩,
    fun i start count hstart h1 h8 hi on hx => ?_⟩
  · exact congrArg Host.Outcome.next ((awake_running hs).trans (serve_taken hi (Request.row_bad unfit)))
  · have noNumber : below limit (byteAt (code :: n :: fields) 1) = none := below_none hn
    exact (refuses_number numbered noNumber).answered hs hi rfl hrow
  · exact (bad.refuses (u := s.taking rest) rfl).answered hs hi bad.coded (bad.rowed tag)
  · exact (named.disabled (u := s.taking rest) off).answered hs hi named.coded (named.rowed tag)
  · exact (named.busy (u := s.taking rest) on hx hrow).answered hs hi named.coded (named.rowed tag)
  · exact ⟨_, congrArg Host.Outcome.next (awake_serve_unchanged hs hi rfl
      (listSegmentsRequest_erasing (u := s.taking rest) hstart h1 h8 on hx) nofun), Spool.moreWhileErasing_below⟩

end Sys2Proof.Machine
end

section
/-! The step on an empty queue (log entries 3, 7 and 8), and the commands whose event cannot occur (log entries 2, 4 and
7). -/

namespace Sys2Proof.Machine

variable {s : State}

/-! ### The idle step -/

theorem step_inReset (empty : s.pending = []) (h : s.inReset = true) : step s = .next s := by
  rw [step, empty]
  exact if_pos h

/-- Out of reset the idle step takes the event of the recorder's own that is due. -/
theorem step_ownEvent (empty : s.pending = []) (h : s.inReset = false) {c : Instr} (due : ownEvent s = some c) :
    step s = exec c s := by
  rw [step, empty]
  dsimp only
  rw [idle, h, due]
  rfl

/-- With none due, 1 µs passes. -/
theorem step_elapse (empty : s.pending = []) (h : s.inReset = false) (nothing : ownEvent s = none) :
    step s = .next (elapse 1 s) := by
  rw [step, empty]
  dsimp only
  rw [idle, h, nothing]
  rfl

theorem ownEvent_request {r : Request} {rest : List Request} (h : s.link.intake = r :: rest) :
    ownEvent s = some r.row := by
  rw [ownEvent, h]
  rfl

theorem ownEvent_choice (h : s.link.intake = []) (able : canSend s = true) : ownEvent s = some .arbiterChoice := by
  rw [ownEvent, h, able]
  rfl

/-! ### Nothing due -/

/-- No timer of the line has run out. -/
theorem Line.due_eq_none {l : LineNo} {ln : Line} (h : ln.due l = none) :
    (∀ t0, ln.state ≠ .settling t0 0) ∧ ln.state ≠ .lockout 0 ∧ ln.state ≠ .suppressed 0 ∧ ln.window ≠ some 0 := by
  unfold Line.due at h
  split at h
  case h_4 settling lockout suppressed =>
    refine ⟨fun t0 => settling t0, lockout, suppressed, fun out => ?_⟩
    rw [if_pos out] at h
    exact nomatch h
  all_goals exact nomatch h

theorem BurstPhase.due_eq_none {p : BurstPhase} (h : p.due = none) :
    (∀ b, p = .isOpen b → b.timer ≠ 0) ∧ ∀ id i g, p ≠ .cooldown id i g 0 := by
  refine ⟨?_, ?_⟩
  · rintro b rfl out
    exact nomatch (if_pos out).symm.trans h
  · rintro id i g rfl
    exact nomatch h

theorem Link.gapDue_eq_none {l : Link} (h : l.gapDue = none) {g : Nat} (hg : l.rx.gap = some g) :
    g < 2000 + (10 * 1000000 + l.speed.baud - 1) / l.speed.baud := by
  rw [gapDue, hg] at h
  dsimp only at h
  split at h
  · exact nomatch h
  · exact Nat.lt_of_not_le ‹_›

/-- Where no event of the recorder's own is due, none of its sources has one. -/
theorem ownEvent_eq_none (h : ownEvent s = none) :
    (∀ l : LineNo, s.lines[l].due l = none) ∧ s.burst.phase.due = none ∧
      (∀ n : ClassNo, s.notes.classes[n].timer ≠ some 0) ∧ (∀ i : SpoolNo, s.spools[i].erasing ≠ some 0) ∧
      s.link.gapDue = none ∧ ∀ p, s.link.path = some p → p.left ≠ 0 := by
  simp only [ownEvent, Option.orElse_eq_orElse, Option.orElse_eq_or, Option.or_eq_none_iff, List.findSome?_eq_none_iff,
    List.mem_finRange, forall_const, ite_eq_right_iff, reduceCtorEq, imp_false] at h
  obtain ⟨-, -, lines, burst, classes, spools, gap, path⟩ := h
  refine ⟨lines, burst, classes, spools, gap, fun p busy out => ?_⟩
  rw [busy] at path
  exact nomatch (if_pos out).symm.trans path

/-! ### Commands whose event cannot occur -/

/-- An event that changes nothing, in reset or out of it. -/
theorem awake_void {f : State → State} (h : f s = s) : awake f s = s := by
  unfold awake
  split
  exacts [rfl, h]

/-- As an event of the recording blocks. -/
theorem recording_void {f : State → State} (h : f s = s) : recording f s = s := by
  rw [recording, h]
  exact closeEvent_quiet rfl fun _ => rfl

/-- Every request but ERASE is the taking of a request of its row with a meaning of its own (R181). -/
theorem exec_request {c : Instr} (hc : Instr.isRequest c = true) :
    c = .erase ∨ ∃ f, ∀ s, exec c s = .next (awake (serve c f) s) := by
  cases c with
  | erase => exact .inl rfl
  | rawChange | settlingTimerExpiry | lockoutExpiry | chatterWindowExpiry | releaseTimerExpiry | deadlineExpiry
  | cooldownExpiry | acknowledgeTimerExpiry | gapTimeout | eraseCompletion | frameArrival | lengthFault | characterError
  | linkBreak | arbiterChoice | transmissionCompletion | rstnLow | pinReset | powerOn | characterReceived
  | receiveLineReturnsHigh => exact nomatch hc
  | _ => exact .inr ⟨_, fun _ => rfl⟩

section NotWaiting

variable {row : Instr} (other : ∀ r rest, s.link.intake = r :: rest → r.row ≠ row)
include other

theorem serve_void (f : List Byte → State → State × Reply) : serve row f s = s := by
  obtain ⟨r, rest, waiting, same, -⟩ | ⟨-, unchanged⟩ := serve_cases row f s
  exacts [absurd same (other r rest waiting), unchanged]

/-- A request row that is not the oldest request's is void (R181). -/
theorem exec_request_void (request : Instr.isRequest row = true) : exec row s = .next s := by
  obtain rfl | ⟨f, meaning⟩ := exec_request request
  · refine congrArg Host.Outcome.next (awake_void ?_)
    unfold takeErase
    split
    · next waiting => exact if_neg (other _ _ waiting)
    · rfl
  · exact (meaning s).trans (congrArg Host.Outcome.next (awake_void (serve_void other f)))

end NotWaiting

/-- The expiry of a line's timer that has time left is void (R56, R59, R61, R64). -/
theorem lineExpiry_void {l : LineNo} {left : Nat} (h : 0 < left) :
    (∀ t0, s.lines[l].state = .settling t0 left → settlingExpiry l s = s) ∧
      (s.lines[l].state = .lockout left → lockoutExpiry l s = s) ∧
      (s.lines[l].state = .suppressed left → releaseExpiry l s = s) ∧
      (s.lines[l].window = some left → windowExpiry l s = s) := by
  obtain ⟨n, rfl⟩ := Nat.exists_eq_succ_of_ne_zero h.ne'
  refine ⟨fun t0 hst => ?_, fun hst => ?_, fun hst => ?_, fun hw => if_neg (by rw [hw]; exact nofun)⟩
  · rw [settlingExpiry, hst]
    rfl
  · rw [lockoutExpiry, hst]
    rfl
  · rw [releaseExpiry, hst]
    rfl

theorem completeTransmission_void {p : Transmission} (busy : s.link.path = some p) (h : 0 < p.left) :
    completeTransmission s = s := by
  rw [completeTransmission, busy]
  exact if_neg h.ne'

theorem gapExpiry_void {g : Nat} (hg : s.link.rx.gap = some g) (h : g < 2000) : gapExpiry s = s := by
  have running : ¬ s.link.rx.gapOver = true := by
    rw [Receiver.gapOver, hg]
    exact fun timedOut => Nat.not_le.2 h (of_decide_eq_true timedOut)
  exact if_neg running

/-! ### The statement -/

/-- What 1 µs does to each timer, erase and transmission (R68, R159, R164). -/
theorem elapse_one (s : State) : let t := elapse 1 s
    t.time = min (s.time + 1) max48 ∧ (∀ l : LineNo, t.lines[l] = s.lines[l].elapse 1) ∧
      (∀ i : SpoolNo, t.spools[i] = s.spools[i].elapse 1) ∧
      t.burst = { s.burst with phase := s.burst.phase.elapse 1 } ∧ t.notes.credit = s.notes.credit ∧
      (∀ n : ClassNo, t.notes.classes[n] = s.notes.classes[n].elapse 1) ∧
      t.link = { s.link with
        rx := s.link.rx.elapse 1, path := s.link.path.map (Transmission.elapse s.link.speed 1) } ∧
      t = { s with
        time := t.time, lines := t.lines, spools := t.spools, burst := t.burst, notes := t.notes, link := t.link } :=
  ⟨rfl, fun l => mapV_get _ _ l, fun i => mapV_get _ _ i, rfl, rfl, fun n => mapV_get _ _ n, rfl, rfl⟩

/-- Settles O2: the idle step takes the first source of events that has one, else time passes for all of them; a void
command leaves the state of its event alone. -/
theorem idleStepAndVoidCommands : Obligations.IdleStepAndVoidCommands := by
  intro s
  have void : ∀ {f : State → State}, f s = s → (.next (awake f s) : Host.Outcome State Fault Refusal) = .next s :=
    fun h => congrArg Host.Outcome.next (awake_void h)
  refine ⟨step_inReset, fun empty running => ⟨fun r rest waiting => step_ownEvent empty running (ownEvent_request waiting),
      fun idle able => step_ownEvent empty running (ownEvent_choice idle able),
      fun c due => step_ownEvent empty running due, fun nothing => ?_⟩,
    fun c request other => exec_request_void other request,
    fun l left h => ?_, fun p busy h => void (completeTransmission_void busy h),
    fun g hg h => void (gapExpiry_void hg h), fun l => void (recording_void (if_pos rfl))⟩
  · obtain ⟨lines, burst, classes, spools, gap, path⟩ := ownEvent_eq_none nothing
    obtain ⟨deadline, cooldown⟩ := BurstPhase.due_eq_none burst
    refine ⟨fun l => Line.due_eq_none (lines l), deadline, cooldown, classes, spools, path,
      fun g => Link.gapDue_eq_none gap, _, step_elapse empty running nothing, ?_⟩
    obtain ⟨time, lines, spools, burst, credit, classes, link, rest⟩ := elapse_one s
    refine ⟨time, fun l => (lines l).trans ?_, spools, burst.trans ?_, credit, classes, link.trans ?_, rest⟩
    · unfold Line.elapse
      cases s.lines[l].state <;> rfl
    · cases s.burst.phase <;> rfl
    · have sent : Transmission.elapse s.link.speed 1 = fun p => { p with left := p.left - s.link.speed.baud } :=
        funext fun p => by rw [Transmission.elapse, Nat.one_mul]
      rw [sent]
      cases s.link.rx <;> rfl
  · obtain ⟨settling, lockout, suppressed, window⟩ := lineExpiry_void (s := s) (l := l) h
    exact ⟨fun t0 hst => void (recording_void (settling t0 hst)), fun hst => void (recording_void (lockout hst)),
      fun hst => void (recording_void (suppressed hst)), fun hw => void (window hw)⟩

end Sys2Proof.Machine
end

section
/-! SET_NOTE carried out (R195, R196): what its payload gives back, and the class it leaves. -/

namespace Sys2Proof.Machine

/-- A SET_NOTE is read exactly where each of its fields is in range (R195, R214). -/
theorem decodeSetNote_eq_some {p : List Byte} {n : ClassNo} {enable : Bool} {priority timeout : Nat} :
    decodeSetNote p = some (n, enable, priority, timeout) ↔
      byteAt p 1 = n.val ∧ yesNo (byteAt p 2) = some enable ∧ byteAt p 3 = priority ∧ priority ≤ 3 ∧
        field p 4 2 = timeout ∧ (timeout = 0 ∨ (10 ≤ timeout ∧ timeout ≤ 10000)) := by
  constructor
  · intro h
    simp only [decodeSetNote, Option.bind_eq_bind, Option.bind_eq_some_iff, below_eq_some, inRange_eq_some] at h
    obtain ⟨_, cls, _, enabled, _, ⟨rfl, -, prio⟩, h⟩ := h
    split at h
    · next sent =>
      cases h
      exact ⟨cls, enabled, rfl, prio, sent, .inl rfl⟩
    · obtain ⟨_, inside, e⟩ := Option.bind_eq_some_iff.1 h
      obtain ⟨rfl, range⟩ := inRange_eq_some.1 inside
      cases e
      exact ⟨cls, enabled, rfl, prio, rfl, .inr range⟩
  · rintro ⟨cls, enabled, rfl, prio, rfl, range⟩
    unfold decodeSetNote
    rw [below_eq_some.2 cls, enabled, inRange_eq_some.2 ⟨rfl, Nat.zero_le _, prio⟩]
    obtain zero | range := range
    · exact (if_pos zero).trans (by rw [zero]; rfl)
    · exact (if_neg (by omega)).trans (by rw [inRange_eq_some.2 ⟨rfl, range⟩]; rfl)

/-- SET_NOTE, its class as a byte (R195, R214). -/
def Payload.setNote (cls : Byte) (enable : Bool) (priority timeout : Nat) : List Byte :=
  [0x16, cls, boolByte enable, byte priority] ++ leBytes 2 timeout

/-- The payload of a SET_NOTE is read exactly where its class, priority and timeout are in range (R195, R214). -/
theorem decodeSetNote_payload (cls : Byte) (enable : Bool) {priority timeout : Nat} (hp : priority ≤ 255)
    (ht : timeout ≤ 65535) {f : ClassNo × Bool × Nat × Nat} :
    decodeSetNote (Payload.setNote cls enable priority timeout) = some f ↔
      cls.toNat = f.1.val ∧ priority ≤ 3 ∧ (timeout = 0 ∨ (10 ≤ timeout ∧ timeout ≤ 10000)) ∧
        f.2 = (enable, priority, timeout) := by
  have number : byteAt (Payload.setNote cls enable priority timeout) 1 = cls.toNat := rfl
  have enabled : yesNo (byteAt (Payload.setNote cls enable priority timeout) 2) = some enable := by
    cases enable <;> rfl
  have prio : byteAt (Payload.setNote cls enable priority timeout) 3 = priority := byte_toNat (by omega)
  have sent : field (Payload.setNote cls enable priority timeout) 4 2 = timeout :=
    field_last [_, _, _, _] 2 timeout (by omega)
  obtain ⟨n, enable', priority', timeout'⟩ := f
  rw [decodeSetNote_eq_some, number, enabled, prio, sent]
  dsimp only
  constructor
  · rintro ⟨named, he, rfl, prio, rfl, range⟩
    cases he
    exact ⟨named, prio, range, rfl⟩
  · rintro ⟨named, prio, range, e⟩
    cases e
    exact ⟨named, rfl, rfl, prio, rfl, range⟩

/-- A class after a SET_NOTE: its settings, and nothing pending or waiting where it becomes disabled (R195, R196). -/
theorem NoteClass.configure_settings (c : NoteClass) (enable : Bool) (priority timeout : Nat) :
    let k := c.configure enable priority timeout
    k.enable = enable ∧ k.priority = priority ∧ k.timeout = timeout ∧ k.outstanding = c.outstanding ∧
      k.noteNumber = c.noteNumber ∧
      (k.pendingDetail, k.timer, k.resendDue) =
        if c.enable = true ∧ enable = false then (none, none, false) else (c.pendingDetail, c.timer, c.resendDue) := by
  unfold configure
  cases c.enable <;> cases enable <;> exact ⟨rfl, rfl, rfl, rfl, rfl, rfl⟩

/-- The reply to a SET_NOTE gives the class as it stands (R195). -/
theorem setNoteRequest_stored {p : List Byte} {n : ClassNo} {enable : Bool} {priority timeout : Nat} {s : State}
    (read : decodeSetNote p = some (n, enable, priority, timeout)) :
    let c := s.notes.classes[n].configure enable priority timeout
    setNoteRequest p s =
      (s.setClass n c, ⟨.ok, .note enable priority timeout c.state c.noteNumber c.resendDue⟩) := by
  obtain ⟨enabled, prio, time, -⟩ := s.notes.classes[n].configure_settings enable priority timeout
  rw [setNoteRequest, read, withFields_some]
  dsimp only
  rw [enabled, prio, time]

/-- Settles O18: the payload gives back the settings of its class, or nothing where one is out of range. -/
theorem setNoteStored : Obligations.SetNoteStored := by
  intro s tag cls rest enable priority timeout hs hp ht hi
  have decoded := fun f => decodeSetNote_payload cls enable hp ht (f := f)
  refine ⟨fun out => ?_, fun n hn priorityOk timeoutOk => ?_⟩
  · have refused : decodeSetNote (Payload.setNote cls enable priority timeout) = none :=
      Option.eq_none_iff_forall_ne_some.2 fun f read => by
        obtain ⟨number, priorityOk, timeoutOk, -⟩ := (decoded f).1 read
        have := f.1.isLt
        omega
    exact congrArg Host.Outcome.next (settings_refused hs hi rfl refused)
  · have read := (decoded (n, enable, priority, timeout)).2 ⟨hn, priorityOk, timeoutOk, rfl⟩
    obtain ⟨enabled, prio, time, kept, number, waiting⟩ :=
      s.notes.classes[n].configure_settings enable priority timeout
    exact ⟨_, enabled, prio, time, kept, number, waiting, congrArg Host.Outcome.next
      (awake_serve_becomes (t := s.setClass n _) hs hi rfl (setNoteRequest_stored (s := s.taking rest) read) nofun)⟩

end Sys2Proof.Machine
end

section
/-! CREDIT and ACK_NOTE (R200, R202), and the occurrences a class gathers (R193, R194). -/

namespace Sys2Proof.Machine

theorem satAdd_creditCap (credit n : Nat) :
    satAdd Config.creditCap credit n = if credit + n ≤ 8 then credit + n else 8 := Nat.min_def ..

/-- The state of a class with nothing outstanding (R191). -/
theorem NoteClass.state_idle {c : NoteClass} (h : c.outstanding = none) :
    c.state = if c.pendingDetail = none then .idle else .pending := by
  rw [state, h]
  cases c.pendingDetail <;> rfl

/-- An ACK_NOTE with the number of the outstanding notification (R200). -/
theorem ackNoteRequest_own {p : List Byte} {n : ClassNo} {number : Nat} {s : State}
    (read : decodeAckNote p = some (n, number)) (out : s.notes.classes[n].outstanding ≠ none)
    (own : s.notes.classes[n].noteNumber = number) :
    ackNoteRequest p s = (s.setClass n { s.notes.classes[n] with outstanding := none, timer := none, resendDue := false },
      ⟨.ok, .classState (if s.notes.classes[n].pendingDetail = none then .idle else .pending)⟩) := by
  rw [ackNoteRequest, read, withFields_some]
  refine (if_pos ⟨Option.isSome_iff_ne_none.2 out, own.symm⟩).trans ?_
  exact congrArg (fun st => (_, (⟨.ok, .classState st⟩ : Reply))) (NoteClass.state_idle rfl)

/-- An ACK_NOTE with any other number, or with nothing outstanding (R200). -/
theorem ackNoteRequest_stale {p : List Byte} {n : ClassNo} {number : Nat} {s : State}
    (read : decodeAckNote p = some (n, number))
    (other : s.notes.classes[n].outstanding = none ∨ s.notes.classes[n].noteNumber ≠ number) :
    ackNoteRequest p s = (s, ⟨.staleNote, .stale s.notes.classes[n].state
      (if s.notes.classes[n].outstanding = none then none else some s.notes.classes[n].noteNumber)⟩) := by
  rw [ackNoteRequest, read, withFields_some]
  refine (if_neg ?_).trans ?_
  · rintro ⟨out, own⟩
    exact other.elim (Option.isSome_iff_ne_none.1 out) (· own.symm)
  · cases s.notes.classes[n].outstanding <;> rfl

theorem decodeAckNote_payload (n : ClassNo) (number : Byte) :
    decodeAckNote [0x51, byte n.val, number] = some (n, number.toNat) := by
  have cls : below 6 (byteAt [0x51, byte n.val, number] 1) = some n := below_byte (by decide) n
  rw [decodeAckNote, cls]
  rfl

/-- Settles O34: the credit is read and added; the acknowledgment is its class's own or stale; the rest is not read. -/
theorem creditGrantedAndNoteAcknowledged : Obligations.CreditGrantedAndNoteAcknowledged := by
  intro s tag rest hs
  refine ⟨fun n h1 h8 hi => ?_, fun n number hi => ⟨fun ⟨out, own⟩ => ?_, fun other => ?_⟩, fun c number hc hi => ?_,
    fun n hn hi => ?_⟩
  · have read : decodeCredit [0x50, byte n] = some n := inRange_byte (by omega) h1 h8
    have granted : creditRequest [0x50, byte n] (s.taking rest) =
        ((s.setCredit (satAdd Config.creditCap s.notes.credit n)).taking rest,
          ⟨.ok, .credit (satAdd Config.creditCap s.notes.credit n)⟩) := by
      rw [creditRequest, read]
      rfl
    rw [satAdd_creditCap] at granted
    exact congrArg Host.Outcome.next (awake_serve_becomes hs hi rfl granted nofun)
  · exact congrArg Host.Outcome.next (awake_serve_becomes (t := s.setClass n _) hs hi rfl
      (ackNoteRequest_own (s := s.taking rest) (decodeAckNote_payload n number) out own) nofun)
  · exact congrArg Host.Outcome.next (awake_serve_unchanged hs hi rfl
      (ackNoteRequest_stale (s := s.taking rest) (decodeAckNote_payload n number) other) nofun)
  · have refused : decodeAckNote [0x51, c, number] = none := bind_below (below_none hc)
    exact congrArg Host.Outcome.next (settings_refused hs hi rfl refused)
  · have refused : decodeCredit [0x50, n] = none := if_neg fun (h : 1 ≤ n.toNat ∧ n.toNat ≤ 8) => by omega
    exact congrArg Host.Outcome.next (settings_refused hs hi rfl refused)

/-- Settles O35: the branches of the taking of an occurrence, and the rule of each class for merging two details. -/
theorem occurrencesGathered : Obligations.OccurrencesGathered := by
  refine ⟨fun c d => ⟨(c.take_frame d).2, fun on none => ?_, fun earlier on pending => ?_⟩, fun g g' n n' q q' => ?_,
    fun _ _ _ _ _ _ _ _ _ _ _ _ => rfl, fun _ _ => ⟨rfl, rfl, fun _ _ => rfl⟩, fun _ _ => rfl⟩
  · rw [NoteClass.take, if_pos on, none]
    rfl
  · rw [NoteClass.take, if_pos on, pending]
    rfl
  · cases q <;> rfl

end Sys2Proof.Machine
end

section
/-! The law of the notification unit class by class: what each of the unit's own events leaves of it (R191 to R205). -/

namespace Sys2Proof.Machine

/-- The law of one class (R191, R194 to R201). -/
structure NoteClass.Lawful (c : NoteClass) : Prop where
  disabled : c.enable = false → c.pendingDetail = none ∧ c.timer = none ∧ c.resendDue = false
  idle : c.outstanding = none → c.timer = none ∧ c.resendDue = false
  number : c.noteNumber ≤ 255
  settings : c.priority ≤ 3 ∧ (c.timeout = 0 ∨ (10 ≤ c.timeout ∧ c.timeout ≤ 10000))

/-- The law of the unit: credit within its cap, and the law of every class (R191, R202). -/
structure Notes.Lawful (n : Notes) : Prop where
  credit : n.credit ≤ Config.creditCap
  classes : ∀ c : ClassNo, n.classes[c].Lawful

theorem notesLaw_iff {s : State} : NotesLaw s ↔ s.notes.Lawful := by
  constructor
  · rintro ⟨credit, disabled, idle, number, settings⟩
    exact ⟨credit, fun c => ⟨disabled c, idle c, number c, settings c⟩⟩
  · rintro ⟨credit, classes⟩
    exact ⟨credit, fun c => (classes c).disabled, fun c => (classes c).idle, fun c => (classes c).number,
      fun c => (classes c).settings⟩

/-! ### One class -/

namespace NoteClass.Lawful

variable {c : NoteClass} (h : c.Lawful)
include h

/-- A class that has something pending, or waits for an acknowledgment or a resend, is enabled (R194, R196). -/
theorem enabled (k : c.pendingDetail ≠ none ∨ c.timer ≠ none ∨ c.resendDue = true) : c.enable = true := by
  by_contra off
  obtain ⟨pending, timer, due⟩ := h.disabled (eq_false_of_ne_true off)
  obtain k | k | k := k
  exacts [k pending, k timer, nomatch due.symm.trans k]

/-- Only the pending detail differs, and that only where the class is enabled (R194). -/
theorem gathered {c' : NoteClass} (same : c' = { c with pendingDetail := c'.pendingDetail })
    (off : c.enable = false → c' = c) : c'.Lawful := by
  cases on : c.enable with
  | false => exact off on ▸ h
  | true =>
    rw [same]
    exact { h with disabled := fun k => nomatch on.symm.trans k }

/-- A notification is outstanding: the timer may run, or a resend be due (R198 to R201). -/
theorem awaiting (on : c.enable = true) {pending sent : Option Detail} {number : Nat} {timer : Option Nat} {due : Bool}
    (out : sent ≠ none) (fits : number ≤ 255) : NoteClass.Lawful { c with
      pendingDetail := pending, outstanding := sent, noteNumber := number, timer, resendDue := due } where
  disabled := fun k => nomatch on.symm.trans k
  idle := fun k => absurd k out
  number := fits
  settings := h.settings

/-- No notification is outstanding, and nothing waits for its acknowledgment (R200, R204, R205). -/
theorem silent {pending : Option Detail} (off : c.enable = false → pending = none) : NoteClass.Lawful { c with
    pendingDetail := pending, outstanding := none, timer := none, resendDue := false } where
  disabled := fun k => ⟨off k, rfl, rfl⟩
  idle := fun _ => ⟨rfl, rfl⟩
  number := h.number
  settings := h.settings

/-- SET_NOTE with settings in range (R195, R196). -/
theorem configure (enable : Bool) {priority timeout : Nat} (hp : priority ≤ 3)
    (ht : timeout = 0 ∨ (10 ≤ timeout ∧ timeout ≤ 10000)) : (c.configure enable priority timeout).Lawful := by
  unfold NoteClass.configure
  dsimp only
  split
  · exact ⟨fun _ => ⟨rfl, rfl, rfl⟩, fun _ => ⟨rfl, rfl⟩, h.number, hp, ht⟩
  · next stays =>
    refine ⟨fun (off : enable = false) => h.disabled ?_, h.idle, h.number, hp, ht⟩
    simpa [off] using stays

/-- A resend or a new notification (R198, R199). -/
theorem send {n : ClassNo} {f : Frame} {c' : NoteClass} (e : c.send n = some (f, c')) : c'.Lawful := by
  unfold NoteClass.send at e
  split at e
  · next due =>
    obtain ⟨d, sent, e⟩ := Option.map_eq_some_iff.1 e
    cases e
    exact h.awaiting (h.enabled (.inr (.inr due))) (Option.ne_none_iff_exists'.2 ⟨d, sent⟩) h.number
  · obtain ⟨d, pending, e⟩ := Option.map_eq_some_iff.1 e
    cases e
    exact h.awaiting (h.enabled (.inl (Option.ne_none_iff_exists'.2 ⟨d, pending⟩))) nofun
      (Nat.le_of_lt_succ (Nat.mod_lt _ (by decide)))

/-- The expiry of the acknowledge timer makes a resend due (R198). -/
theorem expired (running : c.timer ≠ none) : NoteClass.Lawful { c with timer := none, resendDue := true } :=
  h.awaiting (h.enabled (.inr (.inl running))) (fun none => running (h.idle none).1) h.number

/-- A link break returns an outstanding detail to pending, unless the class is disabled (R204). -/
theorem atBreak : c.atBreak.Lawful := by
  unfold NoteClass.atBreak
  split
  · exact h
  · split
    · next on => exact h.silent fun off => nomatch on.symm.trans off
    · exact h.silent fun off => (h.disabled off).1

theorem elapse (n : Nat) : (c.elapse n).Lawful := by
  have stopped : c.timer = none → tickTimer n c.timer = none := fun k => by rw [k]; rfl
  refine { h with disabled := fun off => ?_, idle := fun none => ?_ }
  · obtain ⟨pending, timer, due⟩ := h.disabled off
    exact ⟨pending, stopped timer, due⟩
  · obtain ⟨timer, due⟩ := h.idle none
    exact ⟨stopped timer, due⟩

end NoteClass.Lawful

/-! ### The unit -/

namespace Notes.Lawful

variable {n : Notes} {s t : State}

theorem setClass (h : n.Lawful) (c : ClassNo) {k : NoteClass} (hk : k.Lawful) :
    Notes.Lawful { n with classes := n.classes.set c k } :=
  ⟨h.credit, fun j => by
    rw [Vector_set_get]
    split
    exacts [hk, h.classes j]⟩

theorem mapped (h : n.Lawful) {f : NoteClass → NoteClass} (hf : ∀ c : NoteClass, c.Lawful → (f c).Lawful) {credit : Nat}
    (hc : credit ≤ Config.creditCap) : Notes.Lawful { classes := mapV f n.classes, credit } :=
  ⟨hc, fun j => by
    rw [mapV_get]
    exact hf _ (h.classes j)⟩

/-- What an event of the recording blocks does to the unit are occurrences (R194). -/
theorem effects {raised : List ClassNo} (h : s.notes.Lawful) (k : MidEffects raised s t) : t.notes.Lawful :=
  ⟨k.credit.trans_le h.credit, fun c => by
    obtain ⟨same, off⟩ := k.occurrences c
    exact (h.classes c).gathered same off⟩

theorem raise (c : ClassNo) (d : Detail) (h : s.notes.Lawful) : (raise c d s).notes.Lawful :=
  h.effects (raise_effects c d s)

theorem countFault (k : CounterNo) (h : s.notes.Lawful) : (countFault k s).notes.Lawful :=
  Notes.Lawful.raise linkFaultClass (.linkFault (single k))
    (s := s.setLink { s.link with counters := s.link.counters.set k (satAdd max16 s.link.counters[k] 1) }) h

theorem ite {c : Prop} [Decidable c] (h : s.notes.Lawful) (k : t.notes.Lawful) : (if c then s else t).notes.Lawful := by
  split
  exacts [h, k]

/-- The end of an event raises NEAR_FULL at most (R24). -/
theorem closeEvent (s0 : State) (h : s.notes.Lawful) : (closeEvent s0 s).notes.Lawful := by
  have ended : (endLappedStreams s0 s).notes.Lawful := by
    rw [endLappedStreams_eq]
    exact h
  exact ended.effects (evaluateNearFull_effects s0 _)

theorem recording {f : State → State} (h : (f s).notes.Lawful) : (recording f s).notes.Lawful := h.closeEvent s

end Notes.Lawful

end Sys2Proof.Machine
end

section
/-! The events of the recording blocks reach the notification unit by occurrences alone, and so keep its law. -/

namespace Sys2Proof.Machine

namespace Notes.Lawful

variable {s : State}

/-! ### Appends and bursts -/

theorem appendTo (i : SpoolNo) (d : Draft) (h : s.notes.Lawful) : (appendTo i d s).notes.Lawful :=
  h.effects (appendTo_effects i d s)

theorem tryOpen (t : Trip) (h : s.notes.Lawful) : (tryOpen t s).1.notes.Lawful := by
  unfold Machine.tryOpen
  dsimp only
  split
  exacts [h.effects (openBurst_effects t s), h.effects (append_effects _ _ s)]

theorem burstTrip (t : Trip) (h : s.notes.Lawful) : (burstTrip t s).1.notes.Lawful := by
  have phased : ∀ p, (s.setPhase p).notes.Lawful := fun _ => h
  unfold Machine.burstTrip
  split
  · exact h.tryOpen t
  · exact (phased _).effects (append_effects _ _ _)
  · split
    exacts [(phased _).tryOpen t, h.effects (append_effects _ _ s)]

theorem deadline (h : s.notes.Lawful) : (deadline s).notes.Lawful := by
  have filled : ∀ i sp, (s.setSpool i sp).notes.Lawful := fun _ _ => h
  unfold Machine.deadline
  split
  · exact ite ((filled _ _).raise burstEndClass _) h
  · exact h

theorem cooldownEnd (h : s.notes.Lawful) : (cooldownEnd s).notes.Lawful := by
  unfold Machine.cooldownEnd
  split
  exacts [ite (s := s.setPhase .idle) h h, h]

/-! ### Groups and lines -/

theorem tripGroup (g : GroupNo) (c : Change) (h : s.notes.Lawful) : (tripGroup g c s).notes.Lawful := by
  have counted : ∀ gr, (s.setGroup g gr).notes.Lawful := fun _ => h
  refine raise tripClass _ ?_
  dsimp only
  split
  exacts [(counted _).effects (append_effects _ _ _), (counted _).burstTrip _]

theorem evaluateGroup (c : Change) (g : GroupNo) (h : s.notes.Lawful) : (evaluateGroup c g s).notes.Lawful := by
  have stated : ∀ gr, (s.setGroup g gr).notes.Lawful := fun _ => h
  unfold Machine.evaluateGroup
  dsimp only
  split
  · split
    · exact h
    · exact ite h (h.tripGroup g c)
    · exact ite ((stated _).appendTo _ _) (h.appendTo _ _)
    · exact ite ((stated _).appendTo _ _) h
  · exact h

theorem qualifiedChange (c : Change) (level : Bool) (h : s.notes.Lawful) : (qualifiedChange c level s).notes.Lawful := by
  have levelled : (s.setLine c.line { s.lines[c.line] with qualified := level }).notes.Lawful := h
  have recorded := (levelled.effects (logEdge_effects c level _)).effects (captureEdge_effects c level _)
  unfold Machine.qualifiedChange
  dsimp only
  split
  · rw [enterRing_eq]
    exact List.foldlRecOn (motive := fun u : State => u.notes.Lawful) _ _ recorded fun _ k g _ => k.evaluateGroup c g
  · exact levelled

theorem suppress (l : LineNo) (h : s.notes.Lawful) : (suppress l s).notes.Lawful := by
  have quieted : ∀ ln, (s.setLine l ln).notes.Lawful := fun _ => h
  exact ite (((quieted _).appendTo _ _).raise chatterClass _) (quieted _)

theorem countExcursion (l : LineNo) (h : s.notes.Lawful) : (countExcursion l s).notes.Lawful := by
  have counted : ∀ ln, (s.setLine l ln).notes.Lawful := fun _ => h
  exact ite h (ite ((counted _).suppress l) (counted _))

theorem departure (l : LineNo) (h : s.notes.Lawful) : (departure l s).notes.Lawful := by
  have locked : ∀ ln, (s.setLine l ln).notes.Lawful := fun _ => h
  unfold Machine.departure
  dsimp only
  split
  exacts [ite (h.qualifiedChange _ _) (locked _), (ite h (locked _)).qualifiedChange _ _]

theorem rawChange (l : LineNo) (pin : Bool) (h : s.notes.Lawful) : (rawChange l pin s).notes.Lawful := by
  have sampled : ∀ ln, (s.setLine l ln).notes.Lawful := fun _ => h
  refine ite h ?_
  dsimp only
  split
  · exact sampled _
  · exact (sampled _).departure l
  · exact (sampled _).countExcursion l
  · exact ite ((sampled _).countExcursion l) (sampled _)
  · exact sampled _

theorem settlingExpiry (l : LineNo) (h : s.notes.Lawful) : (settlingExpiry l s).notes.Lawful := by
  have settled : ∀ ln, (s.setLine l ln).notes.Lawful := fun _ => h
  unfold Machine.settlingExpiry
  dsimp only
  split
  exacts [(settled _).qualifiedChange _ _, h]

theorem lockoutExpiry (l : LineNo) (h : s.notes.Lawful) : (lockoutExpiry l s).notes.Lawful := by
  have unlocked : ∀ ln, (s.setLine l ln).notes.Lawful := fun _ => h
  unfold Machine.lockoutExpiry
  dsimp only
  split
  exacts [ite (unlocked _) ((unlocked _).qualifiedChange _ _), h]

theorem releaseExpiry (l : LineNo) (h : s.notes.Lawful) : (releaseExpiry l s).notes.Lawful := by
  have released : ∀ ln, (s.setLine l ln).notes.Lawful := fun _ => h
  have ended := fun ln i d => ite (c := s.mode = .armed) ((released ln).appendTo i d) (released ln)
  unfold Machine.releaseExpiry
  dsimp only
  split
  exacts [ite (ended _ _ _) ((ended _ _ _).qualifiedChange _ _), h]

end Notes.Lawful

end Sys2Proof.Machine
end

section
/-! The requests, as far as their meanings go before the reply, and the law of the notification unit. -/

namespace Sys2Proof.Machine

namespace Notes.Lawful

variable {s : State} {r r' : State × Reply}

theorem ite_request {c : Prop} [Decidable c] (h : r.1.notes.Lawful) (k : r'.1.notes.Lawful) :
    (if c then r else r').1.notes.Lawful := by
  split
  exacts [h, k]

theorem withFields {α : Type} {fields : Option α} {k : α → State → State × Reply} (h : s.notes.Lawful)
    (hk : ∀ a, fields = some a → (k a s).1.notes.Lawful) : (withFields fields k s).1.notes.Lawful := by
  cases fields
  exacts [h, hk _ rfl]

theorem inSetup {k : State → State × Reply} (h : s.notes.Lawful) (hk : (k s).1.notes.Lawful) :
    (inSetup k s).1.notes.Lawful := ite_request hk h

theorem onCursor {c : CursorNo} {body : Position → Body} {k : SpoolNo → Nat → State → State × Reply}
    (h : s.notes.Lawful) (hk : ∀ i pos, (k i pos s).1.notes.Lawful) : (onCursor c body k s).1.notes.Lawful := by
  unfold Machine.onCursor
  dsimp only
  split
  · exact h
  · exact ite_request h (ite_request h h)
  · exact ite_request h (ite_request h h)
  · exact ite_request h (ite_request h (hk _ _))

variable (p : List Byte)

/-! ### Requests of the notification unit -/

theorem setNoteRequest (h : s.notes.Lawful) : (setNoteRequest p s).1.notes.Lawful :=
  h.withFields fun (n, enable, priority, timeout) read => by
    obtain ⟨-, -, -, prio, -, time⟩ := decodeSetNote_eq_some.1 read
    exact h.setClass n ((h.classes n).configure enable prio time)

theorem creditRequest (h : s.notes.Lawful) : (creditRequest p s).1.notes.Lawful :=
  h.withFields fun _ _ => ⟨satAdd_le .., h.classes⟩

theorem ackNoteRequest (h : s.notes.Lawful) : (ackNoteRequest p s).1.notes.Lawful :=
  h.withFields fun f _ => ite_request
    (h.setClass f.1 ((h.classes f.1).silent fun off => ((h.classes f.1).disabled off).1)) h

/-! ### Requests of the cursor unit -/

theorem endStream (c : CursorNo) (reason : StreamEnd) (h : s.notes.Lawful) : (endStream c reason s).notes.Lawful := by
  unfold Machine.endStream
  split <;> exact h

theorem openCursorRequest (h : s.notes.Lawful) : (openCursorRequest p s).1.notes.Lawful :=
  h.withFields fun f _ => by
    refine ite_request h (ite_request h ?_)
    split
    exacts [h, h.endStream f.1 .closed]

theorem closeCursorRequest (h : s.notes.Lawful) : (closeCursorRequest p s).1.notes.Lawful :=
  h.withFields fun c _ => by
    split
    exacts [h, h.endStream c .closed]

theorem stopStreamRequest (h : s.notes.Lawful) : (stopStreamRequest p s).1.notes.Lawful :=
  h.withFields fun _ _ => by
    split <;> exact h

/-! ### Modes, time and references -/

theorem recordMode (m : Mode) (cause : ModeCause) (h : s.notes.Lawful) : (recordMode m cause s).notes.Lawful :=
  h.effects (appendToAll_effects _ s)

theorem armRequest (h : s.notes.Lawful) : (armRequest p s).1.notes.Lawful := by
  have settled : (standGroups (armLines (s.setMode .armed))).notes.Lawful := h
  refine h.inSetup ?_
  split
  exacts [h, (settled.recordMode .armed .arm).closeEvent s]

theorem holdRequest (h : s.notes.Lawful) : (holdRequest p s).1.notes.Lawful := by
  have ended := h.effects (endBurstEarly_effects .held s)
  have held : ((endBurstEarly .held s).setMode .hold).notes.Lawful := ended
  exact ite_request ((held.recordMode .hold .hold).closeEvent s) h

theorem resumeRequest (h : s.notes.Lawful) : (resumeRequest p s).1.notes.Lawful := by
  have stood : (standGroups (s.setMode .armed)).notes.Lawful := h
  exact ite_request ((stood.recordMode .armed .resume).closeEvent s) h

theorem disarmRequest (h : s.notes.Lawful) : (disarmRequest p s).1.notes.Lawful := by
  have ended := h.effects (endBurstEarly_effects .disarmed s)
  have disarmed : (groupsOff (disarmLines ((endBurstEarly .disarmed s).setMode .setup))).notes.Lawful := ended
  exact ite_request h ((disarmed.recordMode .setup .disarm).closeEvent s)

/-- A soft RESET clears every class, whatever it raised before (R129, R205). -/
theorem resetRequest (h : s.notes.Lawful) : (resetRequest p s).1.notes.Lawful :=
  ⟨Nat.zero_le _, fun n => by
    show (softReset s).notes.classes[n].Lawful
    rw [softReset_class]
    exact (h.classes n).silent fun _ => rfl⟩

theorem setTimeRequest (h : s.notes.Lawful) : (setTimeRequest p s).1.notes.Lawful := by
  have stepped : (s.setTime (field p 1 6)).notes.Lawful := h
  exact (ite (stepped.effects (appendToAll_effects _ _)) stepped).closeEvent s

theorem setReferenceRequest (h : s.notes.Lawful) : (setReferenceRequest p s).1.notes.Lawful :=
  h.withFields fun f _ => by
    have stored : (storeReference f.1 f.2 s).notes.Lawful := h
    have stood : ∀ gr, ((storeReference f.1 f.2 s).setGroup f.1 gr).notes.Lawful := fun _ => h
    exact ite_request (((stood _).appendTo _ _).closeEvent _) stored

/-! ### The store's requests -/

theorem setSpoolRequest (h : s.notes.Lawful) : (setSpoolRequest p s).1.notes.Lawful := by
  obtain e | ⟨i, capacity, policy, threshold, -, -, e⟩ := setSpoolRequest_cases p s <;> rw [e]
  · exact h
  · have stored : ∀ sp, (s.setSpool i sp).notes.Lawful := fun _ => h
    exact (stored _).effects (setNearFull_effects i _ _)

theorem cutRequest (h : s.notes.Lawful) : (cutRequest p s).1.notes.Lawful :=
  h.withFields fun i _ => by
    refine ite_request h (ite_request h (ite_request h ?_))
    split
    exacts [h, ite_request h ((h.effects (append_effects i _ s)).closeEvent s)]

theorem releaseRequest (h : s.notes.Lawful) : (releaseRequest p s).1.notes.Lawful :=
  h.withFields fun f _ => by
    have released : (releaseSpool f.1 f.2 s).notes.Lawful := h
    exact ite_request h (ite_request h (released.closeEvent s))

theorem pinRequest (h : s.notes.Lawful) : (pinRequest p s).1.notes.Lawful :=
  h.withFields fun _ _ => ite_request h (ite_request h (ite_request h (ite_request h (ite_request h h))))

theorem unpinRequest (h : s.notes.Lawful) : (unpinRequest p s).1.notes.Lawful :=
  h.withFields fun _ _ => ite_request h (ite_request h h)

theorem takeErase (h : s.notes.Lawful) : (takeErase s).notes.Lawful := by
  obtain e | ⟨r, rest, -, ⟨reply, e⟩ | ⟨i, -, e⟩⟩ := takeErase_cases s <;> rw [e]
  · exact h
  · exact h
  · have started : (startErase i (s.taking rest)).notes.Lawful := by
      rw [startErase_frame]
      exact h
    exact started.closeEvent _

theorem completeErase (i : SpoolNo) (h : s.notes.Lawful) : (completeErase i s).notes.Lawful := by
  unfold Machine.completeErase
  dsimp only
  split
  · exact h
  · split <;> exact h

theorem getCountersRequest (h : s.notes.Lawful) : (getCountersRequest p s).1.notes.Lawful :=
  h.withFields fun clear _ => by cases clear <;> exact h

end Notes.Lawful

end Sys2Proof.Machine
end

section
/-! The events of the link and the passing of time, and with them every step, keep the law of the notification unit. -/

namespace Sys2Proof.Machine

namespace Notes.Lawful

variable {s t : State}

theorem awake {f : State → State} (h : s.notes.Lawful) (hf : s.notes.Lawful → (f s).notes.Lawful) :
    (awake f s).notes.Lawful := ite h (hf h)

/-- A request keeps the law as its meaning does: taking and answering it is the link's (R181). -/
theorem serve {row : Instr} {f : List Byte → State → State × Reply} (h : s.notes.Lawful)
    (hf : ∀ p u, u.notes.Lawful → (f p u).1.notes.Lawful) : (serve row f s).notes.Lawful := by
  obtain ⟨r, rest, -, -, e⟩ | ⟨-, e⟩ := serve_cases row f s <;> rw [e]
  exacts [hf r.payload (s.taking rest) h, h]

/-! ### Link faults and arrivals -/

theorem gapExpiry (h : s.notes.Lawful) : (gapExpiry s).notes.Lawful :=
  ite (countFault (s := s.setRx .hunt) gapTimeouts h) h

theorem lengthFault (b : Byte) (h : s.notes.Lawful) : (lengthFault b s).notes.Lawful := by
  unfold Machine.lengthFault
  split
  exacts [ite h (countFault (s := s.setRx .hunt) lengthErrors h), h]

theorem characterError (stillLow : Bool) (h : s.notes.Lawful) : (characterError stillLow s).notes.Lawful := by
  have received : ∀ rx, (s.setRx rx).notes.Lawful := fun _ => h
  unfold Machine.characterError
  dsimp only
  split
  exacts [h, received _, (received _).countFault characterErrors]

theorem lineHigh (h : s.notes.Lawful) : (lineHigh s).notes.Lawful := by
  unfold Machine.lineHigh
  split <;> exact h

theorem makeRefusal (tag : Byte) (code : Option Byte) (st : Status) (h : s.notes.Lawful) :
    (makeRefusal tag code st s).notes.Lawful := by
  unfold Machine.makeRefusal
  split
  exacts [h, h.countFault refusalsDropped]

theorem intake (tag : Byte) (payload : List Byte) (h : s.notes.Lawful) : (intake tag payload s).notes.Lawful := by
  unfold Machine.intake
  split
  · exact h.makeRefusal _ _ _
  · split
    exacts [h.makeRefusal _ _ _, h]

theorem frameArrival (low : Byte) (h : s.notes.Lawful) : (frameArrival low s).notes.Lawful := by
  have hunting : (s.setRx .hunt).notes.Lawful := h
  have handed : ∀ body, (handOn body (s.setRx .hunt)).notes.Lawful := fun body => by
    unfold handOn
    split
    exacts [ite (hunting.intake _ _) (hunting.makeRefusal _ _ _), hunting]
  unfold Machine.frameArrival
  split
  exacts [ite (handed _) (hunting.countFault checkErrors), h]

/-- A link break takes away the credit and whatever is outstanding (R202, R204). -/
theorem linkBreak (h : s.notes.Lawful) : (linkBreak s).notes.Lawful :=
  ite h (mapped (h.countFault breaks) (fun _ => NoteClass.Lawful.atBreak) (Nat.zero_le _))

/-! ### Sending -/

/-- A notification sent spends a credit (R197 to R199). -/
theorem sendNote (c : ClassNo) (h : s.notes.Lawful) : (sendNote c s).notes.Lawful := by
  unfold Machine.sendNote
  split
  · next fc sent =>
    obtain ⟨credit, classes⟩ := h.setClass c ((h.classes c).send sent)
    exact ⟨(Nat.sub_le ..).trans credit, classes⟩
  · exact h

theorem arbiterChoice (h : s.notes.Lawful) : (arbiterChoice s).notes.Lawful := by
  have streamed : ∀ c, (sendStream c s).notes.Lawful := fun c => by
    unfold sendStream
    split <;> exact h
  unfold Machine.arbiterChoice
  split
  · exact h
  · split
    · exact h
    · split
      · exact h.sendNote _
      · split
        exacts [streamed _, h]

theorem completeTransmission (h : s.notes.Lawful) : (completeTransmission s).notes.Lawful := by
  have told : ∀ f, (tellOwner f (s.setLink { s.link with path := none })).notes.Lawful := fun f => by
    unfold tellOwner
    split <;> exact h
  unfold Machine.completeTransmission
  split
  exacts [ite (told _) h, h]

/-! ### The acknowledge timer, time and the resets -/

theorem acknowledgeExpiry (n : ClassNo) (h : s.notes.Lawful) : (acknowledgeExpiry n s).notes.Lawful := by
  unfold Machine.acknowledgeExpiry
  dsimp only
  split
  · next out => exact h.setClass n ((h.classes n).expired (Option.ne_none_iff_exists'.2 ⟨0, out⟩))
  · exact h

theorem elapse (n : Nat) (h : s.notes.Lawful) : (elapse n s).notes.Lawful := h.mapped (fun _ k => k.elapse n) h.credit

theorem pinReset (pins : LineSet) (spd1 spd0 : Bool) (s : State) : (pinReset pins spd1 spd0 s).notes.Lawful := by
  obtain ⟨atReset, -⟩ := lawsHoldAtReset pins (speedOf spd1 spd0)
  have lawful := notesLaw_iff.1 atReset
  exact lawful

/-! ### Every command -/

theorem exec {c : Instr} (h : s.notes.Lawful) (e : exec c s = .next t) : t.notes.Lawful := by
  have request : ∀ {row} {f : List Byte → State → State × Reply}, (∀ p u, u.notes.Lawful → (f p u).1.notes.Lawful) →
      (Machine.awake (Machine.serve row f) s).notes.Lawful := fun hf => h.awake fun h => h.serve hf
  cases c with
  | arm => exact next_eq e ▸ request fun p _ => armRequest p
  | hold => exact next_eq e ▸ request fun p _ => holdRequest p
  | resume => exact next_eq e ▸ request fun p _ => resumeRequest p
  | disarm => exact next_eq e ▸ request fun p _ => disarmRequest p
  | reset => exact next_eq e ▸ request fun p _ => resetRequest p
  | setLine => exact next_eq e ▸ request fun _ _ h => h.withFields fun _ _ => h.inSetup h
  | setChatter => exact next_eq e ▸ request fun _ _ h => h.withFields fun _ _ => h.inSetup h
  | setGroup => exact next_eq e ▸ request fun _ _ h => h.withFields fun _ _ => h.inSetup h
  | setReference => exact next_eq e ▸ request fun p _ => setReferenceRequest p
  | setSpool => exact next_eq e ▸ request fun p _ => setSpoolRequest p
  | setBurst => exact next_eq e ▸ request fun _ _ h => h.withFields fun _ _ => h.inSetup h
  | setNote => exact next_eq e ▸ request fun p _ => setNoteRequest p
  | setTime => exact next_eq e ▸ request fun p _ => setTimeRequest p
  | getTime => exact next_eq e ▸ request fun _ _ => id
  | cut => exact next_eq e ▸ request fun p _ => cutRequest p
  | release => exact next_eq e ▸ request fun p _ => releaseRequest p
  | pin => exact next_eq e ▸ request fun p _ => pinRequest p
  | unpin => exact next_eq e ▸ request fun p _ => unpinRequest p
  | erase => exact next_eq e ▸ h.awake takeErase
  | getSpool => exact next_eq e ▸ request fun _ _ h => h.withFields fun _ _ => h
  | openCursor => exact next_eq e ▸ request fun p _ => openCursorRequest p
  | closeCursor => exact next_eq e ▸ request fun p _ => closeCursorRequest p
  | read => exact next_eq e ▸ request fun _ _ h => h.withFields fun _ _ => h.onCursor fun _ _ => ite_request h h
  | space => exact next_eq e ▸ request fun _ _ h => h.withFields fun _ _ => h.onCursor fun _ _ => h
  | skip => exact next_eq e ▸ request fun _ _ h => h.withFields fun _ _ => h.onCursor fun _ _ => h
  | stream => exact next_eq e ▸ request fun _ _ h => h.withFields fun _ _ => h.onCursor fun _ _ => h
  | stopStream => exact next_eq e ▸ request fun p _ => stopStreamRequest p
  | listSegments => exact next_eq e ▸ request fun _ _ h => h.withFields fun _ _ => ite_request h (ite_request h h)
  | credit => exact next_eq e ▸ request fun p _ => creditRequest p
  | ackNote => exact next_eq e ▸ request fun p _ => ackNoteRequest p
  | getStatus => exact next_eq e ▸ request fun _ _ => id
  | getCounters => exact next_eq e ▸ request fun p _ => getCountersRequest p
  | identify => exact next_eq e ▸ request fun _ _ => id
  | badRequestTaken => exact next_eq e ▸ request fun _ _ => id
  | rawChange l pin => exact next_eq e ▸ h.awake fun h => (h.rawChange l pin).recording
  | settlingTimerExpiry l => exact next_eq e ▸ h.awake fun h => (h.settlingExpiry l).recording
  | lockoutExpiry l => exact next_eq e ▸ h.awake fun h => (h.lockoutExpiry l).recording
  | chatterWindowExpiry l => exact next_eq e ▸ h.awake fun h => ite (s := s.setLine l _) h h
  | releaseTimerExpiry l => exact next_eq e ▸ h.awake fun h => (h.releaseExpiry l).recording
  | deadlineExpiry => exact next_eq e ▸ h.awake fun h => h.deadline.recording
  | cooldownExpiry => exact next_eq e ▸ h.awake cooldownEnd
  | acknowledgeTimerExpiry n => exact next_eq e ▸ h.awake (acknowledgeExpiry n)
  | gapTimeout => exact next_eq e ▸ h.awake gapExpiry
  | eraseCompletion i => exact next_eq e ▸ h.awake (completeErase i)
  | frameArrival b => exact next_eq e ▸ h.awake (frameArrival b)
  | lengthFault b => exact next_eq e ▸ h.awake (lengthFault b)
  | characterError low => exact next_eq e ▸ h.awake (characterError low)
  | linkBreak => exact next_eq e ▸ h.awake linkBreak
  | arbiterChoice => exact next_eq e ▸ h.awake arbiterChoice
  | transmissionCompletion => exact next_eq e ▸ h.awake completeTransmission
  | rstnLow => exact next_eq e ▸ h
  | pinReset pins spd1 spd0 => exact next_eq e ▸ pinReset pins spd1 spd0 s
  | powerOn pins spd1 spd0 => exact next_eq e ▸ pinReset pins spd1 spd0 s
  | characterReceived b => exact next_eq e ▸ h.awake fun h => h
  | receiveLineReturnsHigh => exact next_eq e ▸ h.awake lineHigh

end Notes.Lawful

/-- Settles O54: a command keeps the law of the unit and of each class, and so does the passing of time. -/
theorem stepKeepsNotesLaw : Obligations.StepKeepsNotesLaw := by
  intro s t law e
  have h := notesLaw_iff.1 law
  refine notesLaw_iff.2 ?_
  obtain ⟨c, p, e⟩ | rfl | rfl := step_cases e
  · exact Notes.Lawful.exec (s := { s with pending := p }) h e
  · exact h
  · exact h.elapse 1

end Sys2Proof.Machine
end

section
/-! The step on a queue that is not empty. -/

namespace Sys2Proof.Machine

/-- Settles O1: `step` branches on the queue, and a command with a rest is the branch that carries the command out. -/
theorem stepTakesFrontCommand : Obligations.StepTakesFrontCommand := by
  intro s c rest queued
  rw [step, queued]

end Sys2Proof.Machine
end
